-- ==== Sys2Proof/Word.lean ====
section
/-! DEFINITION. The words the block handles (00_scope.md R11, 20_memory.md R57): bytes, source event
words, the 48 button bits, 16-bit axis samples and the two 112-bit buses. Bit 0 is the least
significant bit of every one of them, and every one is unsigned. -/

namespace Sys2Proof

/-- One received byte: a cell of the frame buffer or of a payload (R23, R28). -/
abbrev Byte := BitVec 8

/-- A source event word `ev[9:0]` (R70). -/
abbrev EvWord := BitVec 10

/-- The button outputs `pressed[47:0]` (R30). -/
abbrev Buttons := BitVec 48

/-- One axis sample, unsigned (R8, R30). -/
abbrev Axis := BitVec 16

/-- The payload bus `P[111:0]` (R75) and the ButtonState bus `B[111:0]` (R77). -/
abbrev Bus := BitVec 112

/-- The frame buffer: 16 cells, each a byte or `none` (R23). -/
abbrev FrameBuffer := Vector (Option Byte) 16

/-- The 16 bytes of a full frame buffer (R15, RawFrame). -/
abbrev RawFrame := Vector Byte 16

/-- The 14 payload bytes (R15, R28). -/
abbrev Payload := Vector Byte 14

end Sys2Proof
end

