-- ==== Sys2Proof/Config.lean ====
section
/-! DEFINITION. The parameters of 00_scope.md: the fixed ones (R8), the two open ones the model takes as
arguments (R9), and the environment's (R10). No parameter is block state (R36); the open ones ride in
`State.config` because `step` takes no other argument (notes/assumptions/1.md). -/

namespace Sys2Proof

/-- FRAME_LEN, bytes per frame (R8). -/
def frameLen : Nat := 16

/-- MARKER_BYTE, the value of each of the two sentinel bytes (R8). -/
def markerByte : Byte := 0xFF#8

/-- PAYLOAD_LEN, bytes per payload (R8). -/
def payloadLen : Nat := 14

/-- N_BUTTONS, button flags per payload (R8). -/
def nButtons : Nat := 48

/-- BUTTON_BYTES, the payload bytes that carry the button bits (R8). -/
def buttonBytes : Nat := 6

/-- SCAN_LO, the first buffer index the marker scan tests (R8; 90_conflicts.md C1). -/
def scanLo : Nat := 1

/-- AXIS_CENTER, the consumer's re-centering offset (R10, R152). It is the consumer's, not the block's. -/
def axisCenter : Int := 512

/-- LONE_MARKER_SCAN (R9; 92_eei_decisions.md D5): what a lone marker byte does to the scan. -/
inductive LoneMarkerScan where
  /-- CONTINUE: the scan goes on at the next index. -/
  | continueScan
  /-- STOP_SKIP1: the scan ends with Skip(1). -/
  | stopSkip1
  deriving DecidableEq, Repr

/-- DISCARD_TIMEOUT_MODE (R9; 92_eei_decisions.md D6): what a timeout does to a discard under way. -/
inductive DiscardTimeoutMode where
  /-- RESTART: the discard starts over. -/
  | restart
  /-- RESUME: the bytes already discarded count. -/
  | resume
  deriving DecidableEq, Repr

/-- The open parameters (R9). -/
structure Config where
  loneMarkerScan     : LoneMarkerScan
  discardTimeoutMode : DiscardTimeoutMode
  deriving DecidableEq, Repr

/-- The defaults of R9, which the spec's own vectors use. -/
def Config.specDefault : Config :=
  { loneMarkerScan := .continueScan, discardTimeoutMode := .restart }

end Sys2Proof
end

