-- ==== Sys2Proof/Machine/Phase.lean ====
section
/-! DEFINITION. The phase register's names and codes (10_state.md R22) and the fatal cause's (R27). The
codes the spec says are never written (phases 101 to 111, cause 3) have no name here (R22, R79 and
93_implementation_defined.md U6 allow a model to leave them out). -/

namespace Sys2Proof.Machine

/-- The control state (R22). -/
inductive Phase where
  /-- collecting bytes into buf -/
  | fill
  /-- buf is full; the next step classifies it -/
  | check
  /-- throwing away `rem` more bytes -/
  | discard
  /-- a payload is presented, waiting for the consumer -/
  | emit
  /-- a fatal error was taken; absorbing until reset -/
  | fatal
  deriving DecidableEq, Repr

/-- The 3-bit phase code (R22). -/
def Phase.code : Phase → BitVec 3
  | .fill    => 0b000#3
  | .check   => 0b001#3
  | .discard => 0b010#3
  | .emit    => 0b011#3
  | .fatal   => 0b100#3

/-- The phase a code names; none for the codes that are never written (R22). -/
def Phase.ofCode? (c : BitVec 3) : Option Phase :=
  if c = 0b000#3 then some .fill
  else if c = 0b001#3 then some .check
  else if c = 0b010#3 then some .discard
  else if c = 0b011#3 then some .emit
  else if c = 0b100#3 then some .fatal
  else none

/-- The fatal cause (R27). -/
inductive Cause where
  /-- NONE: no fatal error taken -/
  | none
  /-- IO_FAILURE: an I/O error other than a timeout, from the source -/
  | ioFailure
  /-- CONTRACT_VIOLATION: a payload of the wrong length reached the decoder -/
  | contractViolation
  deriving DecidableEq, Repr

/-- The 2-bit cause code (R27). -/
def Cause.code : Cause → BitVec 2
  | .none              => 0#2
  | .ioFailure         => 1#2
  | .contractViolation => 2#2

end Sys2Proof.Machine
end

