-- ==== Sys2Proof/Syntax.lean ====
section
/-! DEFINITION. The operations of the block, one constructor per row of spec/opcode_table.json. The block
has no instruction set: these are the operations its step relation can take (30_encoding.md R73), and the
standalone use of the payload decoder (R143). -/

namespace Sys2Proof

/-- One operation. The DATA operand is kept even where the spec ignores it (R79), so that no bit of a word
is dropped by decoding. -/
inductive Instr where
  /-- SRC_BYTE.FILL (R100): EV with KIND 00 in FILL. -/
  | srcByteFill (b : Byte)
  /-- SRC_BYTE.DISCARD (R101): EV with KIND 00 in DISCARD. -/
  | srcByteDiscard (b : Byte)
  /-- SRC_TIMEOUT.FILL (R102): EV with KIND 01 in FILL. -/
  | srcTimeoutFill (d : Byte)
  /-- SRC_TIMEOUT.DISCARD (R104): EV with KIND 01 in DISCARD. -/
  | srcTimeoutDiscard (d : Byte)
  /-- SRC_IOERR (R103): EV with KIND 10 in FILL or DISCARD. -/
  | srcIoerr (d : Byte)
  /-- SRC_RESERVED (R106): EV with KIND 11, in any phase. -/
  | srcReserved (d : Byte)
  /-- CHECK (R120): the internal step, selected by phase = CHECK. -/
  | check
  /-- OUT_ACCEPT (R141): ACK in EMIT. -/
  | outAccept
  /-- OUT_ACCEPT.IGNORED (R142): ACK in any other phase. -/
  | outAcceptIgnored
  /-- RESET (R200): RST in any phase. -/
  | reset
  /-- DECODE (R143) of the byte sequence `q`, whatever its length: the decoder used on its own. -/
  | decode (q : List Byte)
  deriving DecidableEq, Repr

end Sys2Proof
end

