-- ==== Sys2Proof/WellFormed.lean ====
section
/-! DEFINITION. Which terms of `Instr` stand for words of the spec's formats. Every DATA operand is a byte
by its type, so the one check left is the width of the DEC format: the payload bus holds exactly 14 bytes
(30_encoding.md R75). DECODE of another length has no word, but it has a meaning (R175), so `exec` takes
ill-formed terms as well. -/

namespace Sys2Proof

/-- Whether the operation has an encoding (R70, R72, R75). -/
def Instr.wellFormed : Instr → Bool
  | .srcByteFill _       => true
  | .srcByteDiscard _    => true
  | .srcTimeoutFill _    => true
  | .srcTimeoutDiscard _ => true
  | .srcIoerr _          => true
  | .srcReserved _       => true
  | .check               => true
  | .outAccept           => true
  | .outAcceptIgnored    => true
  | .reset               => true
  | .decode q            => q.length == payloadLen

end Sys2Proof
end

