-- ==== Sys2Proof/Decode.lean ====
section
/-! DEFINITION. The decoder and the encoder of the operations. The block is decoded on the pair (phase,
selector) by the operation map of 30_encoding.md R73; `decodeOp` is that map, total, and it rejects by
name. `decodeTableWord` reads the words of spec/opcode_table.json, which leave out the port and the phase
that tell rows apart (notes/assumptions/5.md says how the model adds them). -/

namespace Sys2Proof

open Sys2Proof.Machine (Phase)

/-- What selects an operation: a word at one of the ports, or the internal selector (R70, R72). -/
inductive Selector where
  /-- format EV: a word at the source port -/
  | ev (w : EvWord)
  /-- format ACK: the level `out_ready` at the consumer port -/
  | ack (outReady : BitVec 1)
  /-- format RST: the level `rst` -/
  | rst (level : BitVec 1)
  /-- format INT: no word; the phase register selects -/
  | int
  /-- format DEC: the byte sequence at a decoder used on its own -/
  | dec (q : List Byte)
  deriving DecidableEq, Repr

/-- Why the decoder rejects a (phase, selector) pair. -/
inductive DecodeError where
  /-- a dash of R73: the label is not offered in this phase -/
  | notOffered
  /-- the level that would select the operation is 0 (R72) -/
  | notAsserted
  deriving DecidableEq, Repr

/-- The event kinds (R71). -/
inductive EventKind where
  | byte
  | timeout
  | ioerr
  /-- KIND 0b11: no meaning (R79) -/
  | reserved
  deriving DecidableEq, Repr

/-- KIND codes (R71). -/
def EventKind.code : EventKind → BitVec 2
  | .byte     => 0b00#2
  | .timeout  => 0b01#2
  | .ioerr    => 0b10#2
  | .reserved => 0b11#2

/-- The kind a code names (R71). -/
def EventKind.ofCode (c : BitVec 2) : EventKind :=
  if c = 0b00#2 then .byte
  else if c = 0b01#2 then .timeout
  else if c = 0b10#2 then .ioerr
  else .reserved

/-- `ev[9:8]`, KIND (R70). -/
def evKind (w : EvWord) : EventKind := .ofCode (w.extractLsb' 8 2)

/-- `ev[7:0]`, DATA, the only immediate; nothing extends or scales it (R70, R78). -/
def evData (w : EvWord) : Byte := w.extractLsb' 0 8

/-- The event word of a kind and a DATA byte (R70). -/
def evWord (k : EventKind) (d : Byte) : EvWord := k.code ++ d

/-- The EV column entry of R73: a source event word in a phase. A reserved kind is the row SRC_RESERVED
whatever the phase (R106 and 95_test_vectors.md EV21; see notes/assumptions/4.md for R73's dashes). -/
def decodeEv (p : Phase) (w : EvWord) : Except DecodeError Instr :=
  match evKind w, p with
  | .reserved, _       => .ok (.srcReserved (evData w))
  | .byte, .fill       => .ok (.srcByteFill (evData w))
  | .byte, .discard    => .ok (.srcByteDiscard (evData w))
  | .timeout, .fill    => .ok (.srcTimeoutFill (evData w))
  | .timeout, .discard => .ok (.srcTimeoutDiscard (evData w))
  | .ioerr, .fill      => .ok (.srcIoerr (evData w))
  | .ioerr, .discard   => .ok (.srcIoerr (evData w))
  | _, .check          => .error .notOffered
  | _, .emit           => .error .notOffered
  | _, .fatal          => .error .notOffered

/-- The ACK column of R73. -/
def decodeAck (p : Phase) (outReady : BitVec 1) : Except DecodeError Instr :=
  if outReady = 0#1 then .error .notAsserted
  else
    match p with
    | .emit    => .ok .outAccept
    | .fill    => .ok .outAcceptIgnored
    | .check   => .ok .outAcceptIgnored
    | .discard => .ok .outAcceptIgnored
    | .fatal   => .ok .outAcceptIgnored

/-- The INT column of R73: only phase = CHECK selects it (R72). -/
def decodeInt (p : Phase) : Except DecodeError Instr :=
  if p.code = 0b001#3 then .ok .check else .error .notOffered

/-- The operation map (R73), with DEC, which takes no phase (R72). -/
def decodeOp (p : Phase) (sel : Selector) : Except DecodeError Instr :=
  match sel with
  | .ev w  => decodeEv p w
  | .ack r => decodeAck p r
  | .rst r => if r = 0#1 then .error .notAsserted else .ok .reset
  | .int   => decodeInt p
  | .dec q => .ok (.decode q)

/-! ### The encoder -/

/-- The selector of an operation (R70 to R72). -/
def encode : Instr → Selector
  | .srcByteFill b       => .ev (evWord .byte b)
  | .srcByteDiscard b    => .ev (evWord .byte b)
  | .srcTimeoutFill d    => .ev (evWord .timeout d)
  | .srcTimeoutDiscard d => .ev (evWord .timeout d)
  | .srcIoerr d          => .ev (evWord .ioerr d)
  | .srcReserved d       => .ev (evWord .reserved d)
  | .check               => .int
  | .outAccept           => .ack 1#1
  | .outAcceptIgnored    => .ack 1#1
  | .reset               => .rst 1#1
  | .decode q            => .dec q

/-- The phases in which R73 has the operation; DECODE takes no phase. -/
def Instr.selectedIn (i : Instr) (p : Phase) : Bool :=
  match i with
  | .srcByteFill _       => p == .fill
  | .srcByteDiscard _    => p == .discard
  | .srcTimeoutFill _    => p == .fill
  | .srcTimeoutDiscard _ => p == .discard
  | .srcIoerr _          => p == .fill || p == .discard
  | .srcReserved _       => true
  | .check               => p == .check
  | .outAccept           => p == .emit
  | .outAcceptIgnored    => p != .emit
  | .reset               => true
  | .decode _            => true

/-- A phase in which R73 has the operation. -/
def Instr.homePhase : Instr → Phase
  | .srcByteFill _       => .fill
  | .srcByteDiscard _    => .discard
  | .srcTimeoutFill _    => .fill
  | .srcTimeoutDiscard _ => .discard
  | .srcIoerr _          => .fill
  | .srcReserved _       => .fill
  | .check               => .check
  | .outAccept           => .emit
  | .outAcceptIgnored    => .fill
  | .reset               => .fill
  | .decode _            => .fill

/-! ### The payload bus as a number (R75) -/

/-- The `n` bytes of a number, least significant first: payload byte j sits at `P[8j+7:8j]` (R75). -/
def bytesOfNat : Nat → Nat → List Byte
  | 0, _     => []
  | n + 1, w => BitVec.ofNat 8 w :: bytesOfNat n (w / 256)

/-- The number whose bytes, least significant first, are given (R75). -/
def natOfBytes : List Byte → Nat
  | []     => 0
  | b :: t => b.toNat + 256 * natOfBytes t

/-! ### Words of the opcode table -/

/-- The phase and the selector a word of the opcode table stands for. The table numbers the bits of one
port word; the model writes the phase and the port above them (notes/assumptions/5.md):
16 bits, EV in bits 9..0 and the phase code in bits 15..13;
8 bits, bits 7..6 the port: 0 RST (bit 0), 1 ACK (bit 0, phase code in bits 5..3), 2 INT (phase code in
bits 2..0); 112 bits, the payload bus; the row DECODE fixes no bit, so the empty word and the zero byte
are DECODE of the zero payload. -/
def tableSelect (nbits w : Nat) : Option (Phase × Selector) :=
  if 2 ^ nbits ≤ w then none
  else if nbits = 16 then
    if w / 2 ^ 10 % 8 ≠ 0 then none
    else (Phase.ofCode? (BitVec.ofNat 3 (w / 2 ^ 13))).map fun p => (p, .ev (BitVec.ofNat 10 w))
  else if nbits = 8 then
    if w = 0 then some (.fill, .dec (bytesOfNat payloadLen 0))
    else if w / 64 = 0 then
      if w / 2 ≠ 0 then none else some (.fill, .rst (BitVec.ofNat 1 w))
    else if w / 64 = 1 then
      if w / 2 % 4 ≠ 0 then none
      else (Phase.ofCode? (BitVec.ofNat 3 (w / 8 % 8))).map fun p => (p, .ack (BitVec.ofNat 1 w))
    else if w / 64 = 2 then
      if w / 8 % 8 ≠ 0 then none
      else (Phase.ofCode? (BitVec.ofNat 3 w)).map fun p => (p, .int)
    else none
  else if nbits = 112 then some (.fill, .dec (bytesOfNat payloadLen w))
  else if nbits = 0 then some (.fill, .dec (bytesOfNat payloadLen 0))
  else none

/-- The operation an opcode-table word stands for; none where the decoder rejects it. -/
def decodeTableWord (nbits w : Nat) : Option Instr :=
  match tableSelect nbits w with
  | none          => none
  | some (p, sel) => (decodeOp p sel).toOption

/-- The opcode-table word (bits, value) of a well-formed operation, in the layout of `tableSelect`. -/
def encodeTableWord (i : Instr) : Nat × Nat :=
  match encode i with
  | .ev w  => (16, i.homePhase.code.toNat * 2 ^ 13 + w.toNat)
  | .ack r => (8, 64 + i.homePhase.code.toNat * 8 + r.toNat)
  | .rst r => (8, r.toNat)
  | .int   => (8, 128 + i.homePhase.code.toNat)
  | .dec q => (112, natOfBytes q)

end Sys2Proof
end

