-- ==== Sys2Proof/Machine/State.lean ====
section
/-! DEFINITION. The state of the machine as plain data, the reasons a step can stop, and the state after
reset. The block's own state is 10_state.md's: phase, buf, cnt, skip, rem, cause, out_payload. Beside it
stand the parameters (R9), the neighbours' side of the ports (R187) and what a model observes of a run
(R212); none of those is block state (R36). -/

namespace Sys2Proof.Machine

/-- What the decoder returns (R15, R77): button i at bit i, and the four axes. -/
structure ButtonState where
  pressed : Buttons
  axis    : Vector Axis 4
  deriving DecidableEq, Repr

/-- What the block's neighbours do at its ports in one step (R187), or one use of the decoder on its own
(R143, R145), which is no step of the block (R72). -/
inductive Offer where
  /-- the levels of one step: `rst`, `out_ready`, and whether the Byte Source holds its next event back -/
  | ports (rst ack stall : Bool)
  /-- the decoder used on its own, on the byte sequence `q` -/
  | decode (q : List Byte)
  deriving DecidableEq, Repr

/-- The state: the block's elements (R22 to R28), then what the model carries beside them. -/
structure State where
  /-- the open parameters; no rule writes them (R9, R36) -/
  config     : Config
  /-- `phase` (R22) -/
  phase      : Phase
  /-- `buf[0..15]` (R23) -/
  buf        : FrameBuffer
  /-- `cnt`, bytes the current fill has written (R24) -/
  cnt        : BitVec 5
  /-- `skip`, the last discard count, none before the first failed attempt (R25) -/
  skip       : Option (BitVec 4)
  /-- `rem`, bytes still to throw away (R26) -/
  rem        : BitVec 4
  /-- `cause` (R27) -/
  cause      : Cause
  /-- `out_payload` (R28) -/
  outPayload : Option Payload
  /-- the event words the Byte Source holds, in line order; not block state (R36, R62) -/
  source     : List EvWord
  /-- the words the Byte Source goes on with once `source` is used up, over and over; empty: none (R208) -/
  sourceLoop : List EvWord
  /-- what the neighbours do, one entry a step, next one first; not block state (R187) -/
  offers     : List Offer
  /-- what the neighbours go on with once `offers` is used up, over and over; empty: nothing (R208) -/
  offersLoop : List Offer
  /-- observation: how many source events the block has consumed (R212) -/
  consumed   : Nat
  /-- observation: the payloads emitted, one per EMIT entry, oldest first (R212) -/
  emitted    : List Payload
  /-- the value the last use of the decoder on its own returned, none before the first; not block state (R143) -/
  decoded    : Option ButtonState
  deriving DecidableEq, Repr

/-- Why the model stops with an error that refutes every claim needing no fault (93_implementation_defined.md). -/
inductive Fault where
  /-- R175, U11: the decoder was given a sequence of length `n` ≠ 14, and `n` is the recorded information. Raised
  by `decodePayload`, hence by DECODE, the decoder used on its own. Inside a step of the block it is never the
  outcome: that step is `raise Fatal(CONTRACT_VIOLATION)` (`decodeInStep`). Safe. -/
  | contractViolation (n : Nat)
  /-- R13, U3: a buf cell, skip or out_payload that holds no value was read, or an output outside EMIT. Raised
  by the reads of Machine/Ops.lean and Machine/Operands.lean, hence by CHECK on a buffer with an empty cell and by
  SRC_TIMEOUT.DISCARD under RESTART with skip = none. Both are outside R33. Safe. -/
  | readOfNone
  /-- R50, R100: a byte arrived in FILL with cnt ≥ 16, and there is no cell buf[cnt]. Raised by SRC_BYTE.FILL;
  R100 requires cnt ≤ 15, and R33 keeps it. Safe. -/
  | noSuchCell
  /-- R101: a byte arrived in DISCARD with rem = 0, so there is no byte left to count. Raised by
  SRC_BYTE.DISCARD; R101 requires rem ≥ 1, and R33 keeps it. Safe. -/
  | nothingToDiscard
  deriving DecidableEq, Repr

/-- Why the model has no meaning for a step. -/
inductive Refusal where
  /-- an operation of the opcode table that has no meaning yet; raised only by an arm of `exec`. Safe. -/
  | notModelled (mnemonic : String)
  /-- R106, R79, U1: a source event word with KIND 0b11 was offered. Raised by SRC_RESERVED. It ends the run, so
  the mark is sticky. Safe: it errs toward unprovable. -/
  | reservedEventKind
  /-- R73: `exec` was asked for an operation in a phase whose (phase, selector) pair is another row. Raised by the
  meanings of SRC_BYTE.*, SRC_TIMEOUT.* and OUT_ACCEPT*; `step` never asks for one. Safe. -/
  | notSelected
  deriving DecidableEq, Repr

/-- The state right after reset (R35). The neighbours offer nothing and nothing has been observed;
`config` is R9's default. -/
def State.reset : State :=
  { config     := Config.specDefault
    phase      := .fill
    buf        := Vector.replicate 16 none
    cnt        := 0#5
    skip       := none
    rem        := 0#4
    cause      := .none
    outPayload := none
    source     := []
    sourceLoop := []
    offers     := []
    offersLoop := []
    consumed   := 0
    emitted    := []
    decoded    := none }

end Sys2Proof.Machine
end

