-- ==== Sys2Proof/Machine/Ops.lean ====
section
/-! DEFINITION. The named operations on the state: the pseudocode primitives of 00_scope.md R13 over the
frame buffer, the updates the operation rules share, and the one trap entry (60_exceptions.md R172). There
is no trap return: only RESET leaves FATAL (R173), and its effect is `State.resetBlock`. -/

namespace Sys2Proof.Machine

/-- The outcome of a read: the value, or the fault of reading nothing (R13). -/
abbrev Read (α : Type) := Except Fault α

/-- The value a storage element holds; reading `none` is a model fault, never a value (R13). -/
def readValue {α : Type} : Option α → Read α
  | some a => .ok a
  | none   => .error .readOfNone

/-- The values of a list of cells, none if some cell holds none. -/
def collect {α : Type} : (l : List (Option α)) → Option { r : List α // r.length = l.length }
  | []          => some ⟨[], rfl⟩
  | none :: _   => none
  | some a :: t =>
    match collect t with
    | none        => none
    | some ⟨r, h⟩ => some ⟨a :: r, by simp [h]⟩

/-- `buf[i]` as a read (R13): a cell that does not exist or holds none faults. -/
def readCell (buf : FrameBuffer) (i : Nat) : Read Byte :=
  match buf[i]? with
  | none   => .error .noSuchCell
  | some c => readValue c

/-- `MemRead(i, n)`: the bytes `buf[i]` to `buf[i+n-1]` (R13). -/
def memRead (buf : FrameBuffer) (i : Nat) : Nat → Read (List Byte)
  | 0     => .ok []
  | n + 1 =>
    match readCell buf i, memRead buf (i + 1) n with
    | .ok b, .ok t    => .ok (b :: t)
    | .error e, _     => .error e
    | _, .error e     => .error e

/-- `MemWrite(i, 1, v)`, that is `buf[i] <- v` (R13). -/
def memWrite (buf : FrameBuffer) (i : Nat) (v : Byte) : FrameBuffer :=
  buf.setIfInBounds i (some v)

/-- The 16 bytes of the buffer, read whole, as CHECK does (R120). -/
def readFrame (buf : FrameBuffer) : Read RawFrame :=
  match collect buf.toList with
  | none        => .error .readOfNone
  | some ⟨r, h⟩ => .ok ⟨r.toArray, by simpa using h⟩

/-! ### Updates shared by the operation rules -/

/-- `raise Fatal(c)` (R172), the only trap entry: cause and phase are written and nothing else is. -/
def State.raiseFatal (c : Cause) (s : State) : State :=
  { s with cause := c, phase := .fatal }

/-- A fill starts from empty (R101, R102, R141). The old bytes stay in buf; no rule reads them (R34, D13). -/
def State.beginFill (s : State) : State :=
  { s with cnt := 0#5, phase := .fill }

/-- `buf[cnt] <- b; cnt <- cnt + 1`, and CHECK next after the 16th byte (R100). -/
def State.storeByte (b : Byte) (s : State) : State :=
  { s with
    buf   := memWrite s.buf s.cnt.toNat b
    cnt   := s.cnt + 1#5
    phase := if s.cnt = 15#5 then .check else .fill }

/-- `rem <- n` (R101, R104). -/
def State.setRem (n : BitVec 4) (s : State) : State :=
  { s with rem := n }

/-- The Aligned path of CHECK: the payload is presented, which is one emission (R120, R140, R212). -/
def State.present (p : Payload) (s : State) : State :=
  { s with outPayload := some p, phase := .emit, emitted := s.emitted ++ [p] }

/-- The Skip(n) path of CHECK (R120, R124). -/
def State.startDiscard (n : BitVec 4) (s : State) : State :=
  { s with skip := some n, rem := n, phase := .discard }

/-- `out_payload <- none` (R141). -/
def State.dropPayload (s : State) : State :=
  { s with outPayload := none }

/-- Every block element at its reset value (R35, R200). The parameters, the Byte Source, the neighbours and
what has been observed are not block state, and RESET does not reach them (R36, R200). -/
def State.resetBlock (s : State) : State :=
  { s with
    phase      := .fill
    cnt        := 0#5
    rem        := 0#4
    skip       := none
    cause      := .none
    buf        := Vector.replicate 16 none
    outPayload := none }

/-- The value the decoder used on its own returned (R143); the model's return channel, no block state. -/
def State.setDecoded (b : ButtonState) (s : State) : State :=
  { s with decoded := some b }

end Sys2Proof.Machine
end

