-- ==== Sys2Proof/Machine/Flags.lean ====
section
/-! DEFINITION. The signals and flags, all derived: the interface signals of 10_state.md R29 and the STATUS
word of R32. The block has no condition codes (R31); CHECK's transient `aligned` result is the verdict
`classify` returns (Machine/FrameCheck.lean). -/

namespace Sys2Proof.Machine

/-- `src_ready`: the block will consume one source event (R29). -/
def State.srcReady (s : State) : Bool := s.phase == .fill || s.phase == .discard

/-- `out_valid`: out_payload and the decoded outputs are valid (R29). -/
def State.outValid (s : State) : Bool := s.phase == .emit

/-- `fatal` (R29). -/
def State.isFatal (s : State) : Bool := s.phase == .fatal

/-- STATUS, 20 bits, read-only and without side effect (R32): OUT_VALID [19], SKIP [18:15] (0 when none),
REM [14:11], CNT [10:6], CAUSE [5:4], FATAL [3], PHASE [2:0]. -/
def State.status (s : State) : BitVec 20 :=
  BitVec.ofBool s.outValid ++ s.skip.getD 0#4 ++ s.rem ++ s.cnt ++ s.cause.code
    ++ BitVec.ofBool s.isFatal ++ s.phase.code

end Sys2Proof.Machine
end

