-- ==== Sys2Proof/Machine/Operands.lean ====
section
/-! DEFINITION. The operand forms: a frame's payload bytes (41_frame_check.md R121), the payload bus and its
slices (30_encoding.md R75, R76), the button and axis operands of the decoder (R144, R146), and the
ButtonState bus (R77). -/

namespace Sys2Proof.Machine

/-- The payload of a frame: frame bytes 2 to 15, unchanged and in order (R52, R121). -/
def payloadOf (f : RawFrame) : Payload :=
  #v[f[2], f[3], f[4], f[5], f[6], f[7], f[8], f[9], f[10], f[11], f[12], f[13], f[14], f[15]]

/-- Format FRAME: the sentinel, then the payload (R74). -/
def wireFrame (p : Payload) : List Byte :=
  markerByte :: markerByte :: p.toList

/-- The payload bus: byte j at `P[8j+7:8j]`, byte 0 least significant (R75). -/
def payloadBus (p : Payload) : Bus := BitVec.ofNat 112 (natOfBytes p.toList)

/-- Byte j of a sequence. Its callers have checked the length (R143). -/
def byteAt (q : List Byte) (j : Nat) : Byte := q.getD j 0#8

/-- `pressed[i] = bit(i mod 8) of byte (i div 8)` (R54, R144). -/
def buttonBit (q : List Byte) (i : Nat) : Bool := (byteAt q (i / 8)).getLsbD (i % 8)

/-- The 48-bit word whose bit i, for i below n, is `f i`, every other bit 0. -/
def packButtons (f : Nat → Bool) : Nat → Buttons
  | 0     => 0#48
  | n + 1 => packButtons f n ||| ((BitVec.ofBool (f n)).setWidth 48 <<< n)

/-- `axis[k] = zext_16(byte(6+2k)) + 256 * zext_16(byte(7+2k))` (R53, R146). -/
def axisSample (q : List Byte) (k : Nat) : Axis :=
  (byteAt q (6 + 2 * k)).setWidth 16 + 256#16 * (byteAt q (7 + 2 * k)).setWidth 16

/-- The ButtonState bus: `B[47:0] = pressed`, `B[63+16k:48+16k] = axis[k]` (R77). -/
def buttonBus (b : ButtonState) : Bus :=
  b.axis[3] ++ b.axis[2] ++ b.axis[1] ++ b.axis[0] ++ b.pressed

end Sys2Proof.Machine
end

