-- ==== Sys2Proof/Machine/PayloadDecoder.lean ====
section
/-! DEFINITION. The payload decoder (42_output_decode.md R143 to R149): the pure map, its inverse (R148), the
block's decoded outputs (R145), its use of the decoder inside a step (R175) and the operation DECODE. -/

namespace Sys2Proof.Machine

open Host (Outcome)

/-- The ButtonState of a 14-byte sequence (R144, R146); no value is rejected or limited (R149). -/
def buttonState (q : List Byte) : ButtonState :=
  { pressed := packButtons (buttonBit q) nButtons
    axis    := #v[axisSample q 0, axisSample q 1, axisSample q 2, axisSample q 3] }

/-- `decode(q[0..n-1])` (R143, R147): a length other than 14 is a contract violation that records n (R175). -/
def decodePayload (q : List Byte) : Read ButtonState :=
  if q.length = payloadLen then .ok (buttonState q) else .error (.contractViolation q.length)

/-- Byte j of the encoder's button bytes: the sum of `pressed[8j+b] << b` (R148). -/
def buttonByte (w : Buttons) (j : Nat) : Byte := w.extractLsb' (8 * j) 8

/-- The low byte of an axis sample (R148). -/
def axisLow (a : Axis) : Byte := a.extractLsb' 0 8

/-- The high byte of an axis sample (R148). -/
def axisHigh (a : Axis) : Byte := a.extractLsb' 8 8

/-- `encode(pressed, axis)` (R148). -/
def encodePayload (b : ButtonState) : Payload :=
  #v[buttonByte b.pressed 0, buttonByte b.pressed 1, buttonByte b.pressed 2,
     buttonByte b.pressed 3, buttonByte b.pressed 4, buttonByte b.pressed 5,
     axisLow b.axis[0], axisHigh b.axis[0], axisLow b.axis[1], axisHigh b.axis[1],
     axisLow b.axis[2], axisHigh b.axis[2], axisLow b.axis[3], axisHigh b.axis[3]]

/-- The payload at the consumer port (R140): a value in EMIT only (R28). -/
def State.outputPayload (s : State) : Read Payload :=
  if s.outValid then readValue s.outPayload else .error .readOfNone

/-- The decoded outputs at the consumer port: `decode(out_payload)` in EMIT, no value elsewhere (R30, R145). -/
def State.outputs (s : State) : Read ButtonState :=
  match s.outputPayload with
  | .ok p    => decodePayload p.toList
  | .error e => .error e

/-- A step of the block that uses the decoder on `q` and would end in `done`: a contract violation inside the step is
`raise Fatal(CONTRACT_VIOLATION)`, with no other effect (R172, R175). The block's `q` is its payload, so it never is
one (R145). -/
def decodeInStep (q : List Byte) (done s : State) : State :=
  match decodePayload q with
  | .ok _    => done
  | .error _ => s.raiseFatal .contractViolation

/-- DECODE (R143) of a sequence of any length, the decoder used on its own. It writes no block state and reads none;
the model returns its value in `decoded`. On a length n ≠ 14 the model faults with n recorded, returns no value
and raises no cause, whatever the phase (R175, U11). -/
def execDecode (q : List Byte) (s : State) : Outcome State Fault Refusal :=
  match decodePayload q with
  | .ok b    => .next (s.setDecoded b)
  | .error e => .fault e

end Sys2Proof.Machine
end

