-- ==== Sys2Proof/Machine/FrameCheck.lean ====
section
/-! DEFINITION. CHECK: the alignment test, the marker scan and the operation (41_frame_check.md R120 to
R128). -/

namespace Sys2Proof.Machine

open Host (Outcome)

/-- The result of classifying a full buffer (R122). -/
inductive Verdict where
  | aligned
  | skip (n : BitVec 4)
  deriving DecidableEq, Repr

/-- The alignment test: bytes 0 and 1 are the sentinel, and no other byte is tested (R121, R127). -/
def isAligned (f : RawFrame) : Bool := f[0] == markerByte && f[1] == markerByte

/-- The marker scan (R122, R124, R125) of the bytes from index `i` to the end of the buffer; the last byte of
the list is buf[15]. The first deciding index gives the skip count. -/
def scan (mode : LoneMarkerScan) (i : Nat) : List Byte → Nat
  | []          => 1
  | [b]         => if b = markerByte then i else 1
  | b :: c :: t =>
    if b = markerByte then
      if c = markerByte then i
      else
        match mode with
        | .stopSkip1    => 1
        | .continueScan => scan mode (i + 1) (c :: t)
    else scan mode (i + 1) (c :: t)

/-- `classify` (R122): total on every buffer, its only parameter LONE_MARKER_SCAN. Index 0 is not scanned
(R126). -/
def classify (mode : LoneMarkerScan) (f : RawFrame) : Verdict :=
  if isAligned f then .aligned
  else .skip (BitVec.ofNat 4 (scan mode scanLo (f.toList.drop scanLo)))

/-- CHECK (R120). It takes place in CHECK only; elsewhere nothing selects it and nothing changes (R72, R73).
A cell that holds no byte cannot be read (R13). R120 requires cnt = 16 and R33 keeps it; the meaning does not read
cnt, so in CHECK with another cnt it classifies the bytes buf holds (DESIGN CHOICE, notes/assumptions/15.md). The
presented payload is the decoder's input (R145): that its length is looked at in this step, where R175's raise would
stand, is the model's choice and changes nothing, a payload having 14 bytes (notes/assumptions/3.md). -/
def execCheck (s : State) : Outcome State Fault Refusal :=
  match s.phase with
  | .check =>
    match readFrame s.buf with
    | .error e => .fault e
    | .ok f    =>
      match classify s.config.loneMarkerScan f with
      | .aligned => .next (decodeInStep (payloadOf f).toList (s.present (payloadOf f)) s)
      | .skip n  => .next (s.startDiscard n)
  | .fill    => .next s
  | .discard => .next s
  | .emit    => .next s
  | .fatal   => .next s

end Sys2Proof.Machine
end

