-- ==== Sys2Proof/Machine/Output.lean ====
section
/-! DEFINITION. The consumer handshake (42_output_decode.md R140 to R142) and the consumer's re-centering of
an axis (R152), which is the consumer's and not the block's. -/

namespace Sys2Proof.Machine

open Host (Outcome)

/-- OUT_ACCEPT (R141): the consumer takes the frame, and the next attempt starts with an empty buffer. -/
def execOutAccept (s : State) : Outcome State Fault Refusal :=
  match s.phase with
  | .emit    => .next s.dropPayload.beginFill
  | .fill    => .refused .notSelected
  | .check   => .refused .notSelected
  | .discard => .refused .notSelected
  | .fatal   => .refused .notSelected

/-- OUT_ACCEPT.IGNORED (R142): no state element is written. -/
def execOutAcceptIgnored (s : State) : Outcome State Fault Refusal :=
  match s.phase with
  | .emit    => .refused .notSelected
  | .fill    => .next s
  | .check   => .next s
  | .discard => .next s
  | .fatal   => .next s

/-- `centered[k] = axis[k] - 512`, signed (R152): the consumer's, exact as an integer (D24). -/
def centered (a : Axis) : Int := (a.toNat : Int) - axisCenter

end Sys2Proof.Machine
end

