-- ==== Sys2Proof/Machine/Reset.lean ====
section
/-! DEFINITION. RESET (70_reset_and_hazards.md R200). -/

namespace Sys2Proof.Machine

open Host (Outcome)

/-- RESET (R200): accepted in every phase; nothing is read. -/
def execReset (s : State) : Outcome State Fault Refusal :=
  .next s.resetBlock

end Sys2Proof.Machine
end

