-- ==== Sys2Proof/Machine/SourceEvents.lean ====
section
/-! DEFINITION. The source-event operations (40_source_events.md R100 to R106). In CHECK, EMIT and FATAL the
block takes no source event and nothing changes (R105); where R73 has another row for the pair (phase,
selector), the operation is not selected and the model refuses by name. -/

namespace Sys2Proof.Machine

open Host (Outcome)

/-- SRC_BYTE.FILL (R100). R100 requires cnt ≤ 15; there is no cell buf[cnt] otherwise. -/
def execSrcByteFill (b : Byte) (s : State) : Outcome State Fault Refusal :=
  match s.phase with
  | .fill    => if s.cnt ≤ 15#5 then .next (s.storeByte b) else .fault .noSuchCell
  | .discard => .refused .notSelected
  | .check   => .next s
  | .emit    => .next s
  | .fatal   => .next s

/-- SRC_BYTE.DISCARD (R101): the byte is not stored anywhere (R51). R101 requires rem ≥ 1.
It also requires rem ≤ skip, which the meaning does not read (DESIGN CHOICE, notes/assumptions/15.md). -/
def execSrcByteDiscard (_b : Byte) (s : State) : Outcome State Fault Refusal :=
  match s.phase with
  | .discard =>
    if s.rem = 0#4 then .fault .nothingToDiscard
    else if s.rem = 1#4 then .next (s.setRem (s.rem - 1#4)).beginFill
    else .next (s.setRem (s.rem - 1#4))
  | .fill    => .refused .notSelected
  | .check   => .next s
  | .emit    => .next s
  | .fatal   => .next s

/-- SRC_TIMEOUT.FILL (R102): the fill restarts from empty. -/
def execSrcTimeoutFill (_d : Byte) (s : State) : Outcome State Fault Refusal :=
  match s.phase with
  | .fill    => .next s.beginFill
  | .discard => .refused .notSelected
  | .check   => .next s
  | .emit    => .next s
  | .fatal   => .next s

/-- SRC_TIMEOUT.DISCARD (R104): RESTART sets rem back to skip, RESUME keeps it. -/
def execSrcTimeoutDiscard (_d : Byte) (s : State) : Outcome State Fault Refusal :=
  match s.phase with
  | .discard =>
    match s.config.discardTimeoutMode with
    | .resume  => .next s
    | .restart =>
      match readValue s.skip with
      | .ok n    => .next (s.setRem n)
      | .error e => .fault e
  | .fill    => .refused .notSelected
  | .check   => .next s
  | .emit    => .next s
  | .fatal   => .next s

/-- SRC_IOERR (R103): `raise Fatal(IO_FAILURE)`, always, in FILL and in DISCARD (R174). -/
def execSrcIoerr (_d : Byte) (s : State) : Outcome State Fault Refusal :=
  match s.phase with
  | .fill    => .next (s.raiseFatal .ioFailure)
  | .discard => .next (s.raiseFatal .ioFailure)
  | .check   => .next s
  | .emit    => .next s
  | .fatal   => .next s

/-- SRC_RESERVED (R106): the model has no meaning for the step, whatever the phase. -/
def execSrcReserved (_d : Byte) (_s : State) : Outcome State Fault Refusal :=
  .refused .reservedEventKind

end Sys2Proof.Machine
end

