-- ==== Sys2Proof/Machine/Dispatch.lean ====
section
/-! DEFINITION. The dispatch: one arm per constructor of Instr, one direct call of its meaning. -/

namespace Sys2Proof.Machine

def exec (i : Instr) (s : State) : Host.Outcome State Fault Refusal :=
  match i with
  | .srcByteFill b => Sys2Proof.Machine.execSrcByteFill b s
  | .srcByteDiscard b => Sys2Proof.Machine.execSrcByteDiscard b s
  | .srcTimeoutFill d => Sys2Proof.Machine.execSrcTimeoutFill d s
  | .srcTimeoutDiscard d => Sys2Proof.Machine.execSrcTimeoutDiscard d s
  | .srcIoerr d => Sys2Proof.Machine.execSrcIoerr d s
  | .srcReserved d => Sys2Proof.Machine.execSrcReserved d s
  | .check => Sys2Proof.Machine.execCheck s
  | .outAccept => Sys2Proof.Machine.execOutAccept s
  | .outAcceptIgnored => Sys2Proof.Machine.execOutAcceptIgnored s
  | .reset => Sys2Proof.Machine.execReset s
  | .decode q => Sys2Proof.Machine.execDecode q s

end Sys2Proof.Machine
end

