-- ==== Sys2Proof/Machine/Sequencer.lean ====
section
/-! DEFINITION. Which label a step takes, and what taking it does at the ports (00_scope.md R14,
30_encoding.md R73, 60_exceptions.md R178, 70_reset_and_hazards.md R201). Exactly one label is taken per
step; a step in which nothing is offered that the block takes is an ordinary wait (R186, R211). -/

namespace Sys2Proof.Machine

open Host (Outcome)

/-- A step in which nobody drives a level and the Byte Source does not hold back. -/
def Offer.idle : Offer := .ports false false false

/-- A list, or what comes after it once it is used up. -/
def orLoop {α : Type} (now loop : List α) : List α :=
  match now with
  | []     => loop
  | a :: t => a :: t

/-- The words on the line: those listed, then the loop's, over and over (notes/assumptions/2.md). -/
def State.line (s : State) : List EvWord := orLoop s.source s.sourceLoop

/-- The neighbours' entries: those listed, then the loop's, over and over (notes/assumptions/2.md). -/
def State.agenda (s : State) : List Offer := orLoop s.offers s.offersLoop

/-- What the neighbours do in this step; they are idle where neither list has an entry. -/
def State.nextOffer (s : State) : Offer := s.agenda.headD Offer.idle

/-- The event word the Byte Source offers in this step. -/
def offeredEvent (stall : Bool) (source : List EvWord) : Option EvWord :=
  if stall then none else source.head?

/-- The label taken when neither RESET nor a reserved word is offered: the internal CHECK in CHECK (D25), a
source event before an ACK where src_ready = 1 (an ACK has no effect there, R142), and an ACK elsewhere. -/
def selectByPhase (p : Phase) (ack : Bool) (ev : Option EvWord) : Option Selector :=
  match p with
  | .check   => some .int
  | .emit    => if ack then some (.ack 1#1) else none
  | .fatal   => if ack then some (.ack 1#1) else none
  | .fill    => match ev with
                | some w => some (.ev w)
                | none   => if ack then some (.ack 1#1) else none
  | .discard => match ev with
                | some w => some (.ev w)
                | none   => if ack then some (.ack 1#1) else none

/-- The label taken in this step: RESET before any other label (R201); then a reserved word, which the model
refuses whatever the phase (R79, R106); then by phase. None: the block waits. -/
def arbitrate (p : Phase) (offer : Offer) (source : List EvWord) : Option Selector :=
  match offer with
  | .decode q            => some (.dec q)
  | .ports rst ack stall =>
    if rst then some (.rst 1#1)
    else
      match offeredEvent stall source with
      | none   => selectByPhase p ack none
      | some w => if evKind w = .reserved then some (.ev w) else selectByPhase p ack (some w)

/-- The label this step takes. -/
def State.label (s : State) : Option Selector := arbitrate s.phase s.nextOffer s.line

/-- The neighbours' entry for this step is over. -/
def State.wait (s : State) : State :=
  { s with offers := s.agenda.tail }

/-- The block consumes the source event at the head of the line (R59, R62). -/
def State.consume (s : State) : State :=
  { s with offers := s.agenda.tail, source := s.line.tail, consumed := s.consumed + 1 }

/-- What taking a label does at the ports: a source event is consumed, any other label leaves the line alone. -/
def State.advance (sel : Selector) (s : State) : State :=
  match sel with
  | .ev _  => s.consume
  | .ack _ => s.wait
  | .rst _ => s.wait
  | .int   => s.wait
  | .dec _ => s.wait

/-- One step: wait, or run the operation that (phase, label) decodes to (R73). -/
def takeStep (s : State) : Outcome State Fault Refusal :=
  match s.label with
  | none     => .next s.wait
  | some sel =>
    match decodeOp s.phase sel with
    | .ok i    => exec i (s.advance sel)
    | .error _ => .refused .notSelected

/-- The neighbours' entry that offers a selector's label and nothing else. -/
def offerFor : Selector → Offer
  | .ev _  => .ports false false false
  | .ack r => .ports false (r == 1#1) true
  | .rst r => .ports (r == 1#1) false true
  | .int   => .ports false false true
  | .dec q => .decode q

/-- The words a selector puts at the head of the line. -/
def wordsFor : Selector → List EvWord
  | .ev w  => [w]
  | .ack _ => []
  | .rst _ => []
  | .int   => []
  | .dec _ => []

/-- Whether a step in phase `p` takes the operation when its label is the only one offered: where R73 selects
it, but for an ACK in CHECK, since CHECK is taken there (R142, D25). -/
def takenIn (i : Instr) (p : Phase) : Bool :=
  i.selectedIn p && !(i == .outAcceptIgnored && p == .check)

/-- `s` with the operation's label offered in the next step, in a phase in which the step takes it: the phase
of `s` where that does, the operation's own phase otherwise. -/
def State.offerOp (i : Instr) (s : State) : State :=
  { s with
    phase  := if takenIn i s.phase then s.phase else i.homePhase
    source := wordsFor (encode i) ++ s.source
    offers := offerFor (encode i) :: s.offers }

/-- `s` with an opcode-table word's operation offered in the next step. -/
def State.offerWord (s : State) (nbits w : Nat) : State :=
  match decodeTableWord nbits w with
  | none   => s
  | some i => s.offerOp i

end Sys2Proof.Machine
end

