-- ==== Sys2Proof/Machine/Step.lean ====
section
/-! DEFINITION. The step, and the host's way to place an operation before it. -/

namespace Sys2Proof.Machine

/-- One step of the machine: `takeStep` (Machine/Sequencer.lean). -/
def step (s : State) : Host.Outcome State Fault Refusal := takeStep s

/-- `s` with the operation of an opcode-table word offered in the very next step (notes/assumptions/6.md). -/
def State.withFetchWord (s : State) (nbits w : Nat) : State := s.offerWord nbits w

end Sys2Proof.Machine
end

