-- ==== Sys2Proof/Machine/Stimulus.lean ====
section
/-! DEFINITION. The stimulus language (30_encoding.md R81, R82): its labels, their words, the
pseudo-operations, and how a sequence of labels is offered to the block. -/

namespace Sys2Proof.Machine

open Host (Outcome)

/-- One line of a stimulus (R81). CHECK has no line. -/
inductive Stim where
  | byte (b : Byte)
  | timeout
  | ioerr
  | accept
  | reset
  deriving DecidableEq, Repr

/-- The word of a line at its port (R81): `0x0NN`, `0x100`, `0x200`, ACK 1, RST 1. -/
def Stim.selector : Stim → Selector
  | .byte b  => .ev (evWord .byte b)
  | .timeout => .ev 0x100#10
  | .ioerr   => .ev 0x200#10
  | .accept  => .ack 1#1
  | .reset   => .rst 1#1

/-- `BYTES b0, ..., bn` (R82). -/
def stimBytes (bs : List Byte) : List Stim := bs.map .byte

/-- `FRAME p0, ..., p13` (R82). -/
def stimFrame (p : Payload) : List Stim := stimBytes (wireFrame p)

/-- `JUNK n` (R82). -/
def stimJunk (n : Nat) : List Stim := stimBytes (List.replicate n 0#8)

/-- `ZFRAME` (R82). -/
def stimZFrame : List Stim := stimFrame (Vector.replicate 14 0#8)

/-- The line's label is offered in the next step: an event joins the end of the line the Byte Source holds,
an ACK or a RESET is driven for one step. Nothing but the stimulus is offered after it.

DESIGN CHOICE (notes/assumptions/12.md): an `ACCEPT` line placed while an earlier event still waits holds that
event back for the step (`stall`, see `offerFor`), so the ACK is the label taken (in CHECK the CHECK is, but
`runStim` places no `ACCEPT` line there). In FILL and DISCARD, where `src_ready` is 1, the ACK has no
effect (R142) and the event waits one step longer; R81 does not say which of the two is taken there. An ACK
that a neighbour offers together with an event, outside a stimulus, follows log 10 instead: the event is taken first. -/
def Stim.place (l : Stim) (s : State) : State :=
  match l.selector with
  | .ev w => { s with source := s.source ++ [w], sourceLoop := [], offers := [Offer.idle], offersLoop := [] }
  | sel   => { s with sourceLoop := [], offers := [offerFor sel], offersLoop := [] }

/-- The outcome of going on from a next state. -/
def andThen (o : Outcome State Fault Refusal) (f : State → Outcome State Fault Refusal) :
    Outcome State Fault Refusal :=
  match o with
  | .next s    => f s
  | .fault r   => .fault r
  | .refused r => .refused r

/-- The internal CHECK, if it is due, is taken before the line is offered (R81), unless the line is RESET, which
is then offered in the step of the CHECK and wins it (R201). -/
def settleFor (l : Stim) (s : State) : Outcome State Fault Refusal :=
  if s.phase = .check ∧ l ≠ .reset then step { s with sourceLoop := [], offers := [], offersLoop := [] } else .next s

/-- `n` steps in which only the Byte Source offers what it still holds (R81: an event waits until src_ready). -/
def drain : Nat → State → Outcome State Fault Refusal
  | 0, s     => .next s
  | n + 1, s => andThen (step s) (drain n)

/-- The lines of a stimulus, one after another; at the end a due CHECK and the waiting events are taken.
DESIGN CHOICE (notes/assumptions/12.md): one step a line, so events that still wait are not all taken before the
next line is offered. -/
def runStim : List Stim → State → Outcome State Fault Refusal
  | [], s      => drain (2 * s.source.length + 1) s
  | l :: ls, s => andThen (settleFor l s) fun t => andThen (step (l.place t)) (runStim ls)

end Sys2Proof.Machine
end

