-- ==== Sys2Proof/Machine/Environment.lean ====
section
/-! DEFINITION. Runs under an environment that never ends (60_exceptions.md R187, 70_reset_and_hazards.md R208,
R212): before each step the neighbours say what they do in it and which words reach the end of the line. The
environment is an argument of the run and no part of State. -/

namespace Sys2Proof.Machine

open Host (Outcome)

/-- What the neighbours do before and in one step. -/
structure Feed where
  /-- the levels of the step, or a use of the decoder on its own -/
  offer : Offer
  /-- the words the Byte Source gains -/
  words : List EvWord
  deriving DecidableEq, Repr

/-- `s` with one step's feed at the ports. -/
def State.receive (f : Feed) (s : State) : State :=
  { s with source := s.source ++ f.words, offers := [f.offer] }

/-- `n` steps under `env`: any sequence of events and any timing of ACK, RESET and silence, without end. -/
def runUnder (env : Nat → Feed) : Nat → State → Outcome State Fault Refusal
  | 0, s     => .next s
  | n + 1, s => andThen (runUnder env n s) fun t => step (t.receive (env n))

end Sys2Proof.Machine
end

