-- ==== Sys2Proof/Machine/Observe.lean ====
section
/-! DEFINITION. What a model exposes of a run (70_reset_and_hazards.md R212) and the ways a finite prefix of a
run ends (R211). -/

namespace Sys2Proof.Machine

open Host (Outcome)

/-- The observation of R212. -/
structure Observation where
  emitted  : List (Payload × ButtonState)
  consumed : Nat
  phase    : Phase
  cause    : Cause
  status   : BitVec 20
  deriving DecidableEq, Repr

/-- What is observed in a state: each emission with its decoded outputs, the count of events, the phase, the
cause and STATUS. -/
def State.observe (s : State) : Observation :=
  { emitted  := s.emitted.map fun p => (p, buttonState p.toList)
    consumed := s.consumed
    phase    := s.phase
    cause    := s.cause
    status   := s.status }

/-- The four ends of a finite prefix of a run (R211). -/
inductive RunEnd where
  /-- phase FILL or DISCARD and no source event is offered: not final, the block is live -/
  | waitingForSource
  /-- phase EMIT and no ACK is offered: not final, a frame is presented -/
  | waitingForConsumer
  /-- phase FATAL: faulted, never a successful end -/
  | fatal
  /-- a reserved event word was offered: the model has no meaning -/
  | refused
  deriving DecidableEq, Repr

/-- Whether the neighbours' entry for this step drives `out_ready`. -/
def State.ackOffered (s : State) : Bool :=
  match s.nextOffer with
  | .ports _ ack _ => ack
  | .decode _      => false

/-- The source event offered in this step. -/
def State.eventOffered (s : State) : Option EvWord :=
  match s.nextOffer with
  | .ports _ _ stall => offeredEvent stall s.line
  | .decode _        => none

/-- The end a state is at, none where the block goes on (R211). -/
def State.endOfRun (s : State) : Option RunEnd :=
  match s.phase with
  | .fill    => if s.eventOffered = none then some .waitingForSource else none
  | .discard => if s.eventOffered = none then some .waitingForSource else none
  | .emit    => if s.ackOffered then none else some .waitingForConsumer
  | .fatal   => some .fatal
  | .check   => none

/-- The end an outcome is at (R211): a refused outcome is the end `refused`. -/
def endOf : Outcome State Fault Refusal → Option RunEnd
  | .next s    => s.endOfRun
  | .fault _   => none
  | .refused _ => some .refused

end Sys2Proof.Machine
end

