-- ==== Sys2Proof/Safety.lean ====
section
/-! DEFINITION. The terms claims use: the invariants of 10_state.md R33, the sameness of states up to bytes no
rule reads (R34, D13), the block's part of a state, and when a run is free of a fatal error (R173). -/

namespace Sys2Proof.Machine

/-- R33 item by item, with the ranges R24 to R28 give and D15's "no value outside EMIT" for the phases that
fill, check and discard. -/
structure State.Inv (s : State) : Prop where
  /-- R33.2 -/
  fillCells    : s.phase = .fill → s.cnt.toNat ≤ 15 ∧ ∀ i : Fin 16, i.val < s.cnt.toNat → s.buf[i].isSome
  /-- R33.3 -/
  checkCells   : s.phase = .check → s.cnt = 16#5 ∧ ∀ i : Fin 16, s.buf[i].isSome
  /-- R33.4 -/
  discardCount : s.phase = .discard → ∃ k, s.skip = some k ∧ 1 ≤ s.rem.toNat ∧ s.rem.toNat ≤ k.toNat
  /-- R33.5 -/
  emitPayload  : s.phase = .emit → s.outPayload.isSome
  /-- R33.6 -/
  causeIffFatal : s.cause ≠ .none ↔ s.phase = .fatal
  /-- R25: a skip is never 0. -/
  skipNotZero  : s.skip ≠ some 0#4
  /-- R28, D15 -/
  noStaleFrame : s.phase = .fill ∨ s.phase = .check ∨ s.phase = .discard → s.outPayload = none

/-- The two states differ at most in buffer bytes no rule reads (R34, D13): equal in everything but buf, equal
in the cells the current fill has written, and in every cell once the buffer is full. -/
structure SameUpToStaleBytes (s t : State) : Prop where
  rest   : { s with buf := t.buf } = t
  filled : s.phase = .fill → ∀ i : Fin 16, i.val < s.cnt.toNat → s.buf[i] = t.buf[i]
  full   : s.phase = .check → s.buf = t.buf

/-- The block's own elements of the two states are equal (R22 to R28). -/
structure SameBlock (s t : State) : Prop where
  phase      : s.phase = t.phase
  buf        : s.buf = t.buf
  cnt        : s.cnt = t.cnt
  skip       : s.skip = t.skip
  rem        : s.rem = t.rem
  cause      : s.cause = t.cause
  outPayload : s.outPayload = t.outPayload

/-- A state no fatal error has been taken in; a claim that requires no fault requires this (R173). -/
def State.NoFatal (s : State) : Prop := s.phase ≠ .fatal

/-- The neighbours' entry is one of the block's own steps: the decoder is not used on its own in it. -/
def Offer.isBlockStep : Offer → Bool
  | .ports _ _ _ => true
  | .decode _    => false

/-- The neighbours' entry drives RESET. -/
def Offer.resets : Offer → Bool
  | .ports rst _ _ => rst
  | .decode _      => false

/-- Index `i` decides the scan of frame `f` (R124): a marker byte in [1, 15] that is the last byte, or begins a
full marker, or, under STOP_SKIP1, any marker byte. -/
def ScanDecides (mode : LoneMarkerScan) (f : RawFrame) (i : Nat) : Prop :=
  1 ≤ i ∧ f[i]? = some markerByte ∧
    (i = 15 ∨ f[i + 1]? = some markerByte ∨ mode = .stopSkip1)

/-- The line as BYTE words (R70, R81). -/
def byteWords (bs : List Byte) : List EvWord := bs.map (evWord .byte)

/-- The bytes of frames sent back to back (R74, R129). -/
def backToBack (ps : List Payload) : List Byte := ps.flatMap wireFrame

/-- No payload byte is 0xFF (the hypothesis of R129 and R131). -/
def MarkerFree (ps : List Payload) : Prop := ∀ p ∈ ps, ∀ j : Fin 14, p[j] ≠ markerByte

/-- A fresh fill with `line` on the wire, then whatever `sourceLoop` holds; every neighbour is idle but the Byte
Source. -/
structure State.FreshFill (s : State) (line : List EvWord) : Prop where
  phase  : s.phase = .fill
  cnt    : s.cnt = 0#5
  offers : s.offers = []
  idle   : s.offersLoop = []
  source : s.source = line

/-- The payload a fill that starts on a frame's final byte emits: the frame's second marker byte and payload bytes
0 to 12 (R205). -/
def shiftedPayload (p : Payload) : Payload :=
  #v[markerByte, p[0], p[1], p[2], p[3], p[4], p[5], p[6], p[7], p[8], p[9], p[10], p[11], p[12]]

/-- A word that brings no marker byte: a TIMEOUT, or a BYTE other than 0xFF (R208). -/
def Markerless (w : EvWord) : Prop :=
  evKind w = .timeout ∨ evKind w = .byte ∧ evData w ≠ markerByte

end Sys2Proof.Machine
end

