-- ==== Sys2Proof/Certificates/Slice0/Obligations.lean ====
section
/-! DEFINITION. The statements for the provers. An equation `exec i s = .next { s with … }` says at once that
the operation completes, what it writes, and that it writes nothing else. -/

open Sys2Proof Sys2Proof.Machine

/-! ### Reset and boot -/

/-- R35: every block element at its reset value, and the derived signals. -/
def Obligations.ResetStateHasR35Values : Prop :=
  State.reset.phase = .fill ∧ (∀ i : Fin 16, State.reset.buf[i] = none) ∧ State.reset.cnt = 0#5 ∧
  State.reset.skip = none ∧ State.reset.status.extractLsb' 15 4 = 0#4 ∧ State.reset.rem = 0#4 ∧
  State.reset.cause = .none ∧ State.reset.outPayload = none ∧
  State.reset.srcReady = true ∧ State.reset.outValid = false ∧ State.reset.isFatal = false

/-- R200: RESET is accepted in every phase and puts every block element into its reset value, so fatal = 0,
out_valid = 0 and src_ready = 1. -/
def Obligations.ResetRestoresEveryElement : Prop :=
  ∀ s : State, decodeOp s.phase (.rst 1#1) = .ok .reset ∧
    ∃ t : State, exec .reset s = .next t ∧
      t = { s with
        phase := .fill, cnt := 0#5, rem := 0#4, skip := none, cause := .none,
        buf := Vector.replicate 16 none, outPayload := none } ∧
      t.isFatal = false ∧ t.outValid = false ∧ t.srcReady = true

/-- From R201: offered with any other label, RESET is taken and no other; the source event stays with the source. That
this holds for a reserved word offered with RESET too is the model's reading against R106 and R79
(notes/assumptions/4.md). -/
def Obligations.ResetWinsOverEveryOtherLabel : Prop :=
  ∀ (s : State) (ack stall : Bool) (rest : List Offer), s.offers = .ports true ack stall :: rest →
    step s = .next { s with
      phase := .fill, cnt := 0#5, rem := 0#4, skip := none, cause := .none,
      buf := Vector.replicate 16 none, outPayload := none, offers := rest }

/-! ### Source events -/

/-- R100: SRC_BYTE.FILL. -/
def Obligations.FillStoresByteAtCnt : Prop :=
  ∀ (s : State) (b : Byte) (h : s.cnt.toNat ≤ 15), s.phase = .fill →
    decodeOp s.phase (.ev (0b00#2 ++ b)) = .ok (.srcByteFill b) ∧
    exec (.srcByteFill b) s = .next { s with
      buf   := s.buf.set s.cnt.toNat (some b) (by omega)
      cnt   := s.cnt + 1#5
      phase := if s.cnt = 15#5 then .check else .fill }

/-- From R101: SRC_BYTE.DISCARD; the byte is not stored anywhere. R101 requires rem ≤ skip; that the same holds for a larger
rem is the model's choice (notes/assumptions/15.md). -/
def Obligations.DiscardCountsDown : Prop :=
  ∀ (s : State) (b : Byte), s.phase = .discard → 1 ≤ s.rem.toNat →
    decodeOp s.phase (.ev (0b00#2 ++ b)) = .ok (.srcByteDiscard b) ∧
    exec (.srcByteDiscard b) s =
      if s.rem = 1#4 then .next { s with rem := 0#4, cnt := 0#5, phase := .fill }
      else .next { s with rem := s.rem - 1#4 }

/-- R102: SRC_TIMEOUT.FILL, whatever DATA and cnt are. -/
def Obligations.FillTimeoutRestartsFromEmpty : Prop :=
  ∀ (s : State) (d : Byte), s.phase = .fill →
    decodeOp s.phase (.ev (0b01#2 ++ d)) = .ok (.srcTimeoutFill d) ∧
    exec (.srcTimeoutFill d) s = .next { s with cnt := 0#5, phase := .fill }

/-- R104: SRC_TIMEOUT.DISCARD under each mode. -/
def Obligations.DiscardTimeoutRestartsOrResumes : Prop :=
  ∀ (s : State) (d : Byte), s.phase = .discard →
    decodeOp s.phase (.ev (0b01#2 ++ d)) = .ok (.srcTimeoutDiscard d) ∧
    (∀ n, s.config.discardTimeoutMode = .restart → s.skip = some n →
      exec (.srcTimeoutDiscard d) s = .next { s with rem := n }) ∧
    (s.config.discardTimeoutMode = .resume → exec (.srcTimeoutDiscard d) s = .next s)

/-- R103: SRC_IOERR in FILL and in DISCARD; fatal becomes 1, and every other element is frozen. -/
def Obligations.IoErrorTakesFatal : Prop :=
  ∀ (s : State) (d : Byte), s.phase = .fill ∨ s.phase = .discard →
    decodeOp s.phase (.ev (0b10#2 ++ d)) = .ok (.srcIoerr d) ∧
    ∃ t : State, exec (.srcIoerr d) s = .next t ∧
      t = { s with cause := .ioFailure, phase := .fatal } ∧ t.isFatal = true

/-- R106: a reserved word offered without RESET is refused whatever the phase, and the run that offers it stays refused. -/
def Obligations.ReservedKindRefusesTheRun : Prop :=
  ∀ (s : State) (d : Byte),
    decodeOp s.phase (.ev (0b11#2 ++ d)) = .ok (.srcReserved d) ∧
    exec (.srcReserved d) s = .refused .reservedEventKind ∧
    ∀ (ack : Bool) (offers : List Offer) (line : List EvWord) (k : Nat),
      s.offers = .ports false ack false :: offers → s.source = (0b11#2 ++ d) :: line →
      Host.Core.run Sys2Proof.core (k + 1) s = .refused .reservedEventKind

/-- R105, first sentences: in CHECK, EMIT and FATAL src_ready = 0, and no step consumes a source event. -/
def Obligations.NoEventConsumedUnlessReady : Prop :=
  ∀ s t : State, s.phase = .check ∨ s.phase = .emit ∨ s.phase = .fatal →
    s.srcReady = false ∧ (step s = .next t → t.source = s.source ∧ t.consumed = s.consumed)

/-- From R62: the block consumes events one at a time, in the order of the line, and only where src_ready = 1. -/
def Obligations.EventsConsumedInLineOrder : Prop :=
  ∀ s t : State, step s = .next t →
    (t.source = s.source ∧ t.consumed = s.consumed) ∨
    ∃ w, s.line = w :: t.source ∧ t.consumed = s.consumed + 1 ∧ s.srcReady = true

/-- From R171 and R208: no number of TIMEOUTs, in any pattern of DATA, silence and ACK, escalates: the run goes on in
the same phase with the same cause, and a line of TIMEOUTs without end is consumed one a step for ever. -/
def Obligations.TimeoutsNeverEscalate : Prop :=
  ∀ s : State, s.Inv → s.phase = .fill ∨ s.phase = .discard →
    (∀ w, w ∈ s.source ∨ w ∈ s.sourceLoop → evKind w = .timeout) →
    (∀ o, o ∈ s.offers ∨ o ∈ s.offersLoop → o.isBlockStep = true ∧ o.resets = false) →
    ∀ n : Nat, ∃ t : State, Host.Core.run Sys2Proof.core n s = .next t ∧
      t.phase = s.phase ∧ t.cause = s.cause ∧ t.emitted = s.emitted ∧
      (s.sourceLoop ≠ [] → s.offers = [] → s.offersLoop = [] → t.consumed = s.consumed + n)

/-! ### CHECK -/

/-- From R120: CHECK presents the payload of an aligned frame, with out_valid = 1 after it, or enters DISCARD with
skip = rem; it consumes no source event. The entry in `emitted` is R212's list. R120 requires cnt = 16; that the
same holds for any other cnt is the model's choice (notes/assumptions/15.md). -/
def Obligations.CheckPresentsOrDiscards : Prop :=
  ∀ (s : State) (f : RawFrame), s.phase = .check → (∀ i : Fin 16, s.buf[i] = some f[i]) →
    decodeOp s.phase .int = .ok .check ∧
    (classify s.config.loneMarkerScan f = .aligned → ∃ p : Payload, (∀ j : Fin 14, p[j] = f[j.val + 2]) ∧
      ∃ t : State, exec .check s = .next t ∧
        t = { s with outPayload := some p, phase := .emit, emitted := s.emitted ++ [p] } ∧ t.outValid = true) ∧
    (∀ n, classify s.config.loneMarkerScan f = .skip n →
      exec .check s = .next { s with skip := some n, rem := n, phase := .discard })

/-- R121: aligned iff bytes 0 and 1 are 0xFF, whatever the other bytes are and under both scan settings. -/
def Obligations.AlignedIffFirstTwoBytesAreMarkers : Prop :=
  ∀ (mode : LoneMarkerScan) (f : RawFrame),
    (classify mode f = .aligned ↔ f[0] = 0xFF#8 ∧ f[1] = 0xFF#8) ∧
    ∀ j : Fin 14, (payloadOf f)[j] = f[j.val + 2]

/-- From R124 and R125: the skip value is the first deciding index's, 1 when none decides, and CHECK enters DISCARD with
rem = skip = s. R120 requires cnt = 16 for CHECK; that the last clause holds for any other cnt is the model's choice
(notes/assumptions/15.md). -/
def Obligations.SkipIsTheFirstDecidingIndex : Prop :=
  ∀ (mode : LoneMarkerScan) (f : RawFrame), ¬ (f[0] = 0xFF#8 ∧ f[1] = 0xFF#8) →
    (∀ i, ScanDecides mode f i → (∀ j, j < i → ¬ ScanDecides mode f j) →
      (f[i + 1]? = some 0xFF#8 → classify mode f = .skip (BitVec.ofNat 4 i)) ∧
      (i = 15 → classify mode f = .skip 15#4) ∧
      (i ≠ 15 → f[i + 1]? ≠ some 0xFF#8 → classify mode f = .skip 1#4)) ∧
    ((∀ i, ¬ ScanDecides mode f i) → classify mode f = .skip 1#4) ∧
    (∀ s : State, s.phase = .check → s.config.loneMarkerScan = mode → (∀ i : Fin 16, s.buf[i] = some f[i]) →
      ∃ (n : BitVec 4) (t : State), classify mode f = .skip n ∧ exec .check s = .next t ∧
        t.phase = .discard ∧ t.rem = n ∧ t.skip = some n)

/-- Every skip is between 1 and 15 ("Every Skip(s) has 1 ≤ s ≤ 15", R128, which the spec marks derived). -/
def Obligations.EverySkipIsBetween1And15 : Prop :=
  ∀ (mode : LoneMarkerScan) (f : RawFrame) (n : BitVec 4), classify mode f = .skip n →
    1 ≤ n.toNat ∧ n.toNat ≤ 15

/-! ### Output and the decoder -/

/-- R141: OUT_ACCEPT; out_valid becomes 0. -/
def Obligations.AcceptStartsTheNextAttempt : Prop :=
  ∀ s : State, s.phase = .emit →
    decodeOp s.phase (.ack 1#1) = .ok .outAccept ∧
    ∃ t : State, exec .outAccept s = .next t ∧
      t = { s with outPayload := none, cnt := 0#5, phase := .fill } ∧ t.outValid = false

/-- R142: ACK outside EMIT writes nothing, and in CHECK the model takes CHECK. -/
def Obligations.AckOutsideEmitWritesNothing : Prop :=
  ∀ s : State, s.phase ≠ .emit →
    decodeOp s.phase (.ack 1#1) = .ok .outAcceptIgnored ∧
    exec .outAcceptIgnored s = .next s ∧
    ∀ (stall : Bool) (rest : List Offer), s.phase = .check → s.offers = .ports false true stall :: rest →
      (stall = true ∨ ∀ w ∈ s.line.head?, evKind w ≠ .reserved) →
      step s = exec .check { s with offers := rest }

/-- R140: while nothing is accepted or reset, EMIT keeps the outputs and consumes no event. -/
def Obligations.EmitHoldsItsOutputs : Prop :=
  ∀ (s : State) (p : Payload) (stall : Bool) (rest : List Offer), s.phase = .emit → s.outPayload = some p →
    s.offers = .ports false false stall :: rest →
    (stall = true ∨ ∀ w ∈ s.line.head?, evKind w ≠ .reserved) →
    s.outValid = true ∧ s.outputPayload = .ok p ∧ s.outputs = decodePayload p.toList ∧
    step s = .next { s with offers := rest }

/-- In EMIT the block presents decode(out_payload), which never is a contract violation; elsewhere the outputs
hold no value (R145, which the spec marks derived). -/
def Obligations.OutputsAreDecodedPayloadInEmitOnly : Prop :=
  ∀ s : State,
    (∀ p : Payload, s.phase = .emit → s.outPayload = some p →
      ∃ b, decodePayload p.toList = .ok b ∧ s.outputs = .ok b) ∧
    (s.phase ≠ .emit → s.outputs = .error .readOfNone)

/-- R144, R146: every button bit and every axis of a 14-byte payload. -/
def Obligations.DecoderBitsAndAxes : Prop :=
  ∀ q : Payload, ∃ b : ButtonState, decodePayload q.toList = .ok b ∧
    (∀ i : Fin 48, b.pressed.getLsbD i.val = (q[i.val / 8]'(by omega)).getLsbD (i.val % 8)) ∧
    (∀ k : Fin 4, (b.axis[k]).toNat
      = (q[6 + 2 * k.val]'(by omega)).toNat + 256 * (q[7 + 2 * k.val]'(by omega)).toNat)

/-- DECODE of 14 bytes completes, writes no block state (R147) and hands its value to the model's return channel,
`decoded` (the model's choice, notes/assumptions/3.md). -/
def Obligations.DecodeReturnsItsValueAndWritesNoBlockState : Prop :=
  ∀ (s : State) (q : List Byte), q.length = 14 →
    ∃ b, decodePayload q = .ok b ∧ exec (.decode q) s = .next { s with decoded := some b }

/-- From R175 and U11: on a length n ≠ 14 decode returns no value but a fault recording n, and DECODE, the decoder used on
its own, faults so in every phase; inside a step of the block the step is raise Fatal(CONTRACT_VIOLATION); the
block's own payload never raises it. That a use of the decoder on its own is a step of the model, and that `decodeInStep`
stands in CHECK's step, are the model's choices (notes/assumptions/3.md). -/
def Obligations.WrongLengthIsContractViolation : Prop :=
  (∀ q : List Byte, q.length ≠ 14 →
    decodePayload q = .error (.contractViolation q.length) ∧
    (∀ s : State, exec (.decode q) s = .fault (.contractViolation q.length)) ∧
    (∀ done s : State, decodeInStep q done s = { s with cause := .contractViolation, phase := .fatal })) ∧
  (∀ (p : Payload) (e : Fault) (done s : State), decodePayload p.toList ≠ .error e ∧ decodeInStep p.toList done s = done)

/-- In FATAL no operation but RESET raises a second cause or leaves ("The first cause recorded stays until reset", R179,
which the spec marks derived), a use of the decoder on its own among them: that this is a step is the model's choice
(notes/assumptions/3.md). -/
def Obligations.NoSecondCauseInFatal : Prop :=
  ∀ (i : Instr) (s t : State), s.phase = .fatal → i ≠ .reset → exec i s = .next t →
    t.cause = s.cause ∧ t.phase = .fatal

/-- decode and encode are inverse to each other, on every ButtonState and every payload (R148, which the spec marks
derived). -/
def Obligations.DecodeAndEncodePayloadAreInverse : Prop :=
  (∀ b : ButtonState, decodePayload (encodePayload b).toList = .ok b) ∧
  (∀ (q : Payload) (b : ButtonState), decodePayload q.toList = .ok b → encodePayload b = q)

/-- Payload byte j is a slice of the bus (R75), every decoded field is one too (R76, which the spec marks derived),
and the ButtonState bus is the payload bus bit for bit (R77). -/
def Obligations.BusesCarryTheFields : Prop :=
  ∀ (q : Payload) (b : ButtonState), decodePayload q.toList = .ok b →
    (∀ j : Fin 14, (payloadBus q).extractLsb' (8 * j.val) 8 = q[j]) ∧
    (∀ i : Fin 48, b.pressed.getLsbD i.val = (payloadBus q).getLsbD i.val) ∧
    (∀ k : Fin 4, b.axis[k] = (payloadBus q).extractLsb' (48 + 16 * k.val) 16) ∧
    (buttonBus b).extractLsb' 0 48 = b.pressed ∧
    (∀ k : Fin 4, (buttonBus b).extractLsb' (48 + 16 * k.val) 16 = b.axis[k]) ∧
    buttonBus b = payloadBus q

/-- R152: the consumer's re-centering, its range and the source's three examples. -/
def Obligations.CenteredIsAxisMinus512 : Prop :=
  (∀ a : Axis, centered a = (a.toNat : Int) - 512 ∧ -512 ≤ centered a ∧ centered a ≤ 65023) ∧
  centered 512#16 = 0 ∧ centered 0#16 = -512 ∧ centered 1023#16 = 511

/-! ### STATUS and signals -/

/-- R29: the three interface signals. -/
def Obligations.SignalsFollowThePhase : Prop :=
  ∀ s : State,
    (s.srcReady = true ↔ s.phase = .fill ∨ s.phase = .discard) ∧
    (s.outValid = true ↔ s.phase = .emit) ∧ (s.isFatal = true ↔ s.phase = .fatal)

/-- R32: every field of STATUS at its bits, with the phase codes of R22 and the cause codes of R27 written out. -/
def Obligations.StatusWordLayout : Prop :=
  ∀ s : State,
    s.status.extractLsb' 0 3 = (match s.phase with
      | .fill => 0b000#3 | .check => 0b001#3 | .discard => 0b010#3 | .emit => 0b011#3 | .fatal => 0b100#3) ∧
    (s.status.getLsbD 3 = true ↔ s.phase = .fatal) ∧
    s.status.extractLsb' 4 2 = (match s.cause with
      | .none => 0#2 | .ioFailure => 1#2 | .contractViolation => 2#2) ∧
    s.status.extractLsb' 6 5 = s.cnt ∧
    s.status.extractLsb' 11 4 = s.rem ∧
    s.status.extractLsb' 15 4 = s.skip.getD 0#4 ∧
    (s.status.getLsbD 19 = true ↔ s.phase = .emit)

/-! ### The machine as a whole -/

/-- The reset state meets the invariants of R33, which the spec marks derived. -/
def Obligations.ResetStateMeetsInv : Prop := State.reset.Inv

/-- Every step keeps the invariants of R33 (which the spec marks derived), from every state that meets them. -/
def Obligations.EveryStepKeepsInv : Prop :=
  ∀ s t : State, s.Inv → step s = .next t → t.Inv

/-- From every state that meets R33 no step of the block faults: no value that is none is read, and every count and index
is in its range. The one fault is R175's, of the decoder used on its own on a length n ≠ 14, and it records n; that
such a use is a step of the model is the model's choice (notes/assumptions/3.md). -/
def Obligations.OnlyWrongLengthDecodeFaultsUnderInv : Prop :=
  ∀ (s : State) (e : Fault), s.Inv →
    (step s = .fault e ↔
      ∃ q : List Byte, s.nextOffer = .decode q ∧ q.length ≠ 14 ∧ e = .contractViolation q.length)

/-- The step relation is total (R73); the one refusal is that of a reserved word the step offers (R106). That RESET is
not offered with it rests on R201 and on notes/assumptions/4.md. -/
def Obligations.OnlyReservedWordsAreRefused : Prop :=
  ∀ (s : State) (r : Refusal), step s = .refused r →
    r = .reservedEventKind ∧ s.nextOffer.resets = false ∧
      ∃ d : Byte, s.eventOffered = some (0b11#2 ++ d)

/-- From R173: in FATAL both ports are closed, no label but RESET changes a block element, and RESET leaves. That RESET
leaves with a reserved word offered too is the model's reading (notes/assumptions/4.md), and that a use of the decoder
is a step is its choice (notes/assumptions/3.md). -/
def Obligations.OnlyResetLeavesFatal : Prop :=
  ∀ s : State, s.phase = .fatal →
    s.srcReady = false ∧ s.outValid = false ∧
    (∀ t, s.nextOffer.resets = false → step s = .next t → SameBlock s t) ∧
    (s.nextOffer.resets = true → ∃ t, step s = .next t ∧ t.phase = .fill)

/-- From R174, R145 and R175: a step enters FATAL only by SRC_IOERR in FILL or DISCARD, with cause IO_FAILURE, and no step
of the block gives the cause CONTRACT_VIOLATION. The steps range over uses of the decoder on its own too, which end in
no next state on a wrong length; that such a use is a step is the model's choice (notes/assumptions/3.md). -/
def Obligations.FatalIsEnteredByIoErrorOnly : Prop :=
  ∀ s t : State, step s = .next t →
    (s.phase ≠ .fatal → t.phase = .fatal →
      t.cause = .ioFailure ∧ (s.phase = .fill ∨ s.phase = .discard) ∧
        ∃ d : Byte, s.label = some (.ev (0b10#2 ++ d))) ∧
    (t.cause = .contractViolation → s.cause = .contractViolation)

/-- R73, R21: the only transfers of control, in steps of the block. -/
def Obligations.PhaseTransitions : Prop :=
  ∀ s t : State, s.nextOffer.isBlockStep = true → s.nextOffer.resets = false → step s = .next t →
    t.phase = s.phase ∨
    (s.phase, t.phase) ∈ [(Phase.fill, Phase.check), (.fill, .fatal), (.check, .emit), (.check, .discard),
      (.discard, .fill), (.discard, .fatal), (.emit, .fill)]

/-- R50: buf is written only by a byte in FILL, at index cnt, and by RESET. -/
def Obligations.BufWrittenOnlyByFillBytes : Prop :=
  ∀ s t : State, step s = .next t → s.nextOffer.resets = false →
    t.buf = s.buf ∨
    (s.phase = .fill ∧ ∃ b : Byte, s.label = some (.ev (0b00#2 ++ b)) ∧
      ∀ i : Fin 16, t.buf[i] = if i.val = s.cnt.toNat then some b else s.buf[i])

/-- A payload is emitted only by CHECK on an aligned buffer, and is that buffer's bytes 2 to 15 ("An emitted payload
holds bytes 2 to 15 of one fill", R58, which the spec marks derived). -/
def Obligations.EmissionsComeFromAlignedBuffers : Prop :=
  ∀ s t : State, step s = .next t →
    t.emitted = s.emitted ∨
    ∃ (f : RawFrame) (p : Payload), s.phase = .check ∧ (∀ i : Fin 16, s.buf[i] = some f[i]) ∧
      f[0] = 0xFF#8 ∧ f[1] = 0xFF#8 ∧ (∀ j : Fin 14, p[j] = f[j.val + 2]) ∧
      t.emitted = s.emitted ++ [p] ∧ t.outPayload = some p ∧ t.phase = .emit

/-- R9, R36: no step writes a parameter. -/
def Obligations.ParametersNeverChange : Prop :=
  ∀ s t : State, step s = .next t → t.config = s.config

/-- Buffer bytes of an earlier fill never matter: states equal but for them step alike ("No rule reads a buf cell
written during an earlier fill", R34, which the spec marks derived; D13). -/
def Obligations.StaleBytesNeverMatter : Prop :=
  ∀ s t : State, SameUpToStaleBytes s t →
    match step s, step t with
    | .next s', .next t'     => SameUpToStaleBytes s' t'
    | .fault a, .fault b     => a = b
    | .refused a, .refused b => a = b
    | _, _                   => False

/-! ### The step and the words -/

/-- A step runs what (phase, label) decodes to: a taken event leaves the line, the neighbours' entry is used up,
and then the operation's meaning applies; with no label the block waits. -/
def Obligations.StepRunsTheDecodedOperation : Prop :=
  ∀ s : State,
    (s.label = none → step s = .next { s with offers := s.agenda.tail }) ∧
    (∀ w i, s.label = some (.ev w) → decodeOp s.phase (.ev w) = .ok i →
      step s = exec i { s with
        offers := s.agenda.tail, source := s.line.tail, consumed := s.consumed + 1 }) ∧
    (∀ sel i, s.label = some sel → (∀ w, sel ≠ .ev w) → decodeOp s.phase sel = .ok i →
      step s = exec i { s with offers := s.agenda.tail })

/-- Which label a step takes when RESET is not offered, from R73, R105, R142 and R178. That a reserved word is the label
in CHECK, EMIT and FATAL too is R106's "whatever the phase" against R73's dashes (notes/assumptions/4.md); that a
source event is taken before an ACK is the model's choice (notes/assumptions/10.md). A word held back is no event. -/
def Obligations.OneLabelPerStep : Prop :=
  ∀ (p : Phase) (ack stall : Bool) (line : List EvWord) (w : EvWord),
    (evKind w = .reserved → arbitrate p (.ports false ack false) (w :: line) = some (.ev w)) ∧
    (evKind w ≠ .reserved →
      (p = .fill ∨ p = .discard → arbitrate p (.ports false ack false) (w :: line) = some (.ev w)) ∧
      (p = .check → arbitrate p (.ports false ack false) (w :: line) = some .int) ∧
      (p = .emit ∨ p = .fatal →
        arbitrate p (.ports false ack false) (w :: line) = if ack then some (.ack 1#1) else none)) ∧
    (line = [] ∨ stall = true →
      (p = .check → arbitrate p (.ports false ack stall) line = some .int) ∧
      (p ≠ .check → arbitrate p (.ports false ack stall) line = if ack then some (.ack 1#1) else none))

/-- R70 to R73: an operation is what (phase, selector) decodes to exactly when the selector is its encoding and
the map has it in that phase. No bit of a word is dropped, and each pair has one operation. -/
def Obligations.DecodeAndEncodeAgree : Prop :=
  ∀ (i : Instr) (p : Phase) (sel : Selector),
    decodeOp p sel = .ok i ↔ encode i = sel ∧ i.selectedIn p = true

/-- The opcode-table words round-trip for every well-formed operation (the port and phase bits of the layout are
the model's, notes/assumptions/5.md). -/
def Obligations.TableWordRoundTrip : Prop :=
  ∀ i : Instr, i.wellFormed = true →
    decodeTableWord (encodeTableWord i).1 (encodeTableWord i).2 = some i

/-- A word placed for the next step is run by it, whatever the state (notes/assumptions/6.md). -/
def Obligations.PlacedWordRunsNext : Prop :=
  ∀ (s : State) (nbits w : Nat) (i : Instr), decodeTableWord nbits w = some i →
    step (s.withFetchWord nbits w) = exec i { s with
      phase    := if takenIn i s.phase then s.phase else i.homePhase
      consumed := match encode i with | .ev _ => s.consumed + 1 | _ => s.consumed }

/-- Words written out from R70, R71, R72 and R81, in the phases of R73. SRC_RESERVED in EMIT rests on R106
(notes/assumptions/4.md). -/
def Obligations.WrittenWordsDecode : Prop :=
  decodeOp .fill (.ev 0b0000101010#10) = .ok (.srcByteFill 0x2A#8) ∧
  decodeOp .discard (.ev 0b0011111111#10) = .ok (.srcByteDiscard 0xFF#8) ∧
  decodeOp .fill (.ev 0b0111111111#10) = .ok (.srcTimeoutFill 0xFF#8) ∧
  decodeOp .discard (.ev 0b0100000000#10) = .ok (.srcTimeoutDiscard 0x00#8) ∧
  decodeOp .discard (.ev 0b1010101011#10) = .ok (.srcIoerr 0xAB#8) ∧
  decodeOp .emit (.ev 0b1100000001#10) = .ok (.srcReserved 0x01#8) ∧
  decodeOp .emit (.ack 1#1) = .ok .outAccept ∧
  decodeOp .check .int = .ok .check ∧
  decodeOp .fatal (.rst 1#1) = .ok .reset ∧
  decodeOp .emit (.ev 0b0000000000#10) = .error .notOffered ∧
  decodeOp .fill .int = .error .notOffered

/-- R81, R82: the words of the stimulus lines and the expansions of the pseudo-operations. -/
def Obligations.StimulusWords : Prop :=
  (∀ b : Byte, (Stim.byte b).selector = .ev (b.setWidth 10)) ∧
  Stim.timeout.selector = .ev 0x100#10 ∧ Stim.ioerr.selector = .ev 0x200#10 ∧
  Stim.accept.selector = .ack 1#1 ∧ Stim.reset.selector = .rst 1#1 ∧
  (∀ bs : List Byte, stimBytes bs = bs.map .byte) ∧
  (∀ p : Payload, stimFrame p = .byte 0xFF#8 :: .byte 0xFF#8 :: p.toList.map .byte) ∧
  (∀ n : Nat, stimJunk n = List.replicate n (.byte 0x00#8)) ∧
  stimZFrame = .byte 0xFF#8 :: .byte 0xFF#8 :: List.replicate 14 (.byte 0x00#8)

/-- R211: the four ends of a finite prefix of a run. -/
def Obligations.EndsOfARun : Prop :=
  ∀ s : State,
    (s.endOfRun = some .waitingForSource ↔ (s.phase = .fill ∨ s.phase = .discard) ∧ s.eventOffered = none) ∧
    (s.endOfRun = some .waitingForConsumer ↔ s.phase = .emit ∧ s.ackOffered = false) ∧
    (s.endOfRun = some .fatal ↔ s.phase = .fatal) ∧
    (∀ w, s.nextOffer.resets = false → s.eventOffered = some w →
      (evKind w = .reserved ↔ endOf (step s) = some .refused))

/-- Where a meaning is asked for outside the rows of its phase: not selected where the pair is another row, no
effect where the map has a dash (R73, R105; notes/assumptions/7.md). -/
def Obligations.OperationsOutsideTheirPhase : Prop :=
  ∀ (s : State) (b : Byte),
    (s.phase = .discard → exec (.srcByteFill b) s = .refused .notSelected ∧
      exec (.srcTimeoutFill b) s = .refused .notSelected) ∧
    (s.phase = .fill → exec (.srcByteDiscard b) s = .refused .notSelected ∧
      exec (.srcTimeoutDiscard b) s = .refused .notSelected) ∧
    (s.phase ≠ .emit → exec .outAccept s = .refused .notSelected) ∧
    (s.phase = .emit → exec .outAcceptIgnored s = .refused .notSelected) ∧
    (s.phase ≠ .check → exec .check s = .next s) ∧
    (s.phase = .check ∨ s.phase = .emit ∨ s.phase = .fatal →
      exec (.srcByteFill b) s = .next s ∧ exec (.srcByteDiscard b) s = .next s ∧
      exec (.srcTimeoutFill b) s = .next s ∧ exec (.srcTimeoutDiscard b) s = .next s ∧
      exec (.srcIoerr b) s = .next s)

/-- Where a meaning lacks what it needs it stops by name: reading none is a model fault (R13), and there is no cell 16
and no byte left to count (notes/assumptions/8.md). -/
def Obligations.OutsideTheirRequirementsOperationsFault : Prop :=
  ∀ (s : State) (b : Byte),
    (s.phase = .fill → 16 ≤ s.cnt.toNat → exec (.srcByteFill b) s = .fault .noSuchCell) ∧
    (s.phase = .discard → s.rem = 0#4 → exec (.srcByteDiscard b) s = .fault .nothingToDiscard) ∧
    (s.phase = .discard → s.config.discardTimeoutMode = .restart → s.skip = none →
      exec (.srcTimeoutDiscard b) s = .fault .readOfNone) ∧
    (s.phase = .check → (∃ i : Fin 16, s.buf[i] = none) → exec .check s = .fault .readOfNone)

/-! ### Streams -/

/-- From R130, which the spec marks derived: without timeouts an aligned attempt consumes 16 bytes, and a failed one with Skip(n) consumes 16 + n. -/
def Obligations.BytesConsumedPerAttempt : Prop :=
  ∀ (s : State) (f : RawFrame) (rest : List EvWord),
    s.FreshFill (byteWords f.toList ++ rest) → (∀ w ∈ (rest ++ s.sourceLoop).head?, evKind w ≠ .reserved) →
    (classify s.config.loneMarkerScan f = .aligned →
      ∃ t : State, Host.Core.run Sys2Proof.core 17 s = .next t ∧ t.phase = .emit ∧
        t.outPayload = some (payloadOf f) ∧ t.source = rest ∧ t.consumed = s.consumed + 16) ∧
    (∀ (n : BitVec 4) (thrown : List Byte) (line : List EvWord),
      classify s.config.loneMarkerScan f = .skip n →
      thrown.length = n.toNat → rest = byteWords thrown ++ line →
      ∃ t : State, Host.Core.run Sys2Proof.core (17 + n.toNat) s = .next t ∧ t.FreshFill line ∧
        t.consumed = s.consumed + 16 + n.toNat ∧ t.emitted = s.emitted)

/-- From R129, which the spec marks derived: on back-to-back frames without 0xFF in their payloads, an attempt that begins d bytes before a marker
is aligned if d = 0, and otherwise skips d and leaves the next fill at a marker. -/
def Obligations.PeriodicStreamAligns : Prop :=
  ∀ (s : State) (p0 p1 : Payload) (ps : List Payload) (d : Nat) (tail : List EvWord),
    MarkerFree (p0 :: p1 :: ps) → d ≤ 15 →
    s.FreshFill (byteWords ((backToBack (p0 :: p1 :: ps)).drop ((16 - d) % 16)) ++ tail) →
    (d = 0 → ∃ t : State, Host.Core.run Sys2Proof.core 17 s = .next t ∧ t.phase = .emit ∧
      t.outPayload = some p0 ∧ t.source = byteWords (backToBack (p1 :: ps)) ++ tail) ∧
    (d ≠ 0 → ∃ t : State, Host.Core.run Sys2Proof.core (17 + d) s = .next t ∧
      t.skip = some (BitVec.ofNat 4 d) ∧ t.FreshFill (byteWords (backToBack ps) ++ tail))

/-- From R131, which the spec marks derived: from a fresh fill, k bytes without 0xFF and then back-to-back frames without 0xFF in their payloads: the
first payload emitted is F0's, F1's or F2's, by k mod 17, and how many events that takes. -/
def Obligations.ConvergenceFromAJunkPrefix : Prop :=
  ∀ (s : State) (junk : List Byte) (p0 p1 p2 : Payload) (tail : List EvWord),
    (∀ b ∈ junk, b ≠ 0xFF#8) → MarkerFree [p0, p1, p2] →
    (∀ w ∈ (tail ++ s.sourceLoop).head?, evKind w ≠ .reserved) →
    s.FreshFill (byteWords (junk ++ backToBack [p0, p1, p2]) ++ tail) →
    ∃ (n : Nat) (t : State), Host.Core.run Sys2Proof.core n s = .next t ∧ t.phase = .emit ∧
      (junk.length % 17 = 0 → t.emitted = s.emitted ++ [p0] ∧ t.consumed = s.consumed + junk.length + 16) ∧
      (1 ≤ junk.length % 17 → junk.length % 17 ≤ 15 →
        t.emitted = s.emitted ++ [p1] ∧ t.consumed = s.consumed + junk.length + 32) ∧
      (junk.length % 17 = 16 → t.emitted = s.emitted ++ [p2] ∧ t.consumed = s.consumed + junk.length + 48)

/-- From R205, whose sentence the spec marks derived: a fill that starts on a frame's final 0xFF emits the next frame
shifted by one byte, and if that frame ends in 0xFF too, the fill after ACCEPT starts on its final 0xFF again; so with
frames that all end in 0xFF and a consumer that accepts each one at once, every frame is emitted shifted, however many
there are. -/
def Obligations.FinalMarkerByteShiftsForEver : Prop :=
  (∀ (s : State) (p : Payload) (line : List EvWord), p[13] = 0xFF#8 →
    s.FreshFill (byteWords (0xFF#8 :: wireFrame p) ++ line) →
    ∃ t u : State, Host.Core.run Sys2Proof.core 17 s = .next t ∧ t.phase = .emit ∧
      t.outPayload = some #v[0xFF#8, p[0], p[1], p[2], p[3], p[4], p[5], p[6], p[7], p[8], p[9], p[10], p[11], p[12]] ∧
      t.source = byteWords [0xFF#8] ++ line ∧
      step { t with offers := [.ports false true false] } = .next u ∧ u.FreshFill (byteWords [0xFF#8] ++ line)) ∧
  (∀ (s : State) (ps : List Payload) (line : List EvWord), (∀ p ∈ ps, p[13] = 0xFF#8) →
    s.phase = .fill → s.cnt = 0#5 → s.source = byteWords (0xFF#8 :: backToBack ps) ++ line → s.offers = [] →
    s.offersLoop = List.replicate 17 (Offer.ports false false false) ++ [Offer.ports false true false] →
    ∃ t : State, Host.Core.run Sys2Proof.core (18 * ps.length) s = .next t ∧
      t.phase = .fill ∧ t.cnt = 0#5 ∧ t.source = byteWords [0xFF#8] ++ line ∧
      t.emitted = s.emitted ++ ps.map shiftedPayload)

/-! ### Runs without end -/

/-- From R208: a stream that never brings a marker byte, with any silences, TIMEOUTs, ACKs and RESETs and without end,
never emits and never faults: the block fills and discards for ever. -/
def Obligations.MarkerlessStreamNeverEmits : Prop :=
  ∀ (env : Nat → Feed) (s : State), s.Inv → s.phase = .fill → s.cnt = 0#5 →
    (∀ w, w ∈ s.source ∨ w ∈ s.sourceLoop → Markerless w) →
    (∀ n, (env n).offer.isBlockStep = true) → (∀ n, ∀ w ∈ (env n).words, Markerless w) →
    ∀ n : Nat, ∃ t : State, runUnder env n s = .next t ∧
      t.emitted = s.emitted ∧ (t.phase = .fill ∨ t.phase = .check ∨ t.phase = .discard)

/-- From R208 and R150: a consumer that never accepts leaves the block in EMIT for ever, whatever the line brings; that
is no fault, and the outputs stay. -/
def Obligations.UnacceptedFrameWaitsForEver : Prop :=
  ∀ (env : Nat → Feed) (s : State), s.phase = .emit →
    (∀ w, w ∈ s.source ∨ w ∈ s.sourceLoop → evKind w ≠ .reserved) →
    (∀ n, ∃ stall, (env n).offer = .ports false false stall) →
    (∀ n, ∀ w ∈ (env n).words, evKind w ≠ .reserved) →
    ∀ n : Nat, ∃ t : State, runUnder env n s = .next t ∧
      SameBlock s t ∧ t.emitted = s.emitted ∧ t.consumed = s.consumed ∧ t.outputs = s.outputs
end

