-- ==== Sys2Proof/Laws/Decode.lean ====
section
/-! SUPPORT. The fields of an event word, and what the decoder's columns answer (R70 to R73). -/

namespace Sys2Proof

open Sys2Proof.Machine (Phase)

@[simp] theorem EventKind.ofCode_code (k : EventKind) : EventKind.ofCode k.code = k := by
  cases k <;> rfl

@[simp] theorem EventKind.code_ofCode (c : BitVec 2) : (EventKind.ofCode c).code = c := by
  revert c; decide

/-- The bits of an event word: DATA below, KIND above (R70). -/
theorem evWord_getLsbD (k : EventKind) (d : Byte) (i : Nat) :
    (evWord k d).getLsbD i = if i < 8 then d.getLsbD i else k.code.getLsbD (i - 8) :=
  BitVec.getLsbD_append

/-- KIND of a word built from a kind (R70). -/
@[simp] theorem evKind_evWord (k : EventKind) (d : Byte) : evKind (evWord k d) = k := by
  have h : (evWord k d).extractLsb' 8 2 = k.code := by
    apply BitVec.eq_of_getLsbD_eq
    intro i hi
    rw [BitVec.getLsbD_extractLsb', evWord_getLsbD]
    simp [hi]
  rw [evKind, h, EventKind.ofCode_code]

/-- DATA of a word built from a byte (R70, R78). -/
@[simp] theorem evData_evWord (k : EventKind) (d : Byte) : evData (evWord k d) = d := by
  apply BitVec.eq_of_getLsbD_eq
  intro i hi
  rw [evData, BitVec.getLsbD_extractLsb', evWord_getLsbD]
  simp [hi]

/-- An event word is its KIND and its DATA: no bit of the format is left over (R70). -/
@[simp] theorem evWord_kind_data (w : EvWord) : evWord (evKind w) (evData w) = w := by
  apply BitVec.eq_of_getLsbD_eq
  intro i hi
  rw [evWord_getLsbD, evKind, EventKind.code_ofCode, evData]
  by_cases h : i < 8
  · simp [h]
  · have h2 : i - 8 < 2 := by omega
    rw [if_neg h, BitVec.getLsbD_extractLsb', show 8 + (i - 8) = i by omega]
    simp [h2]

/-- The phase code's inverse is one on the codes that are written (R22). -/
@[simp] theorem Phase.ofCode?_code (p : Phase) : Phase.ofCode? p.code = some p := by
  cases p <;> rfl

end Sys2Proof
end

