-- ==== Sys2Proof/Laws/Ops.lean ====
section
/-! SUPPORT. What the named operations of Machine/Ops.lean and the decoder's helpers do, said once. -/

namespace Sys2Proof.Machine

@[simp] theorem orLoop_nil {α : Type} (loop : List α) : orLoop [] loop = loop := rfl

@[simp] theorem orLoop_cons {α : Type} (a : α) (t loop : List α) : orLoop (a :: t) loop = a :: t := rfl

/-- What is left once a first element is used up comes from the same two lists. -/
theorem mem_orLoop_tail {α : Type} {now loop : List α} {a : α}
    (h : a ∈ (orLoop now loop).tail ∨ a ∈ loop) : a ∈ now ∨ a ∈ loop := by
  cases now with
  | nil => exact h.elim (fun h => .inr (List.mem_of_mem_tail h)) .inr
  | cons b t => exact h.elim (fun h => .inl (List.mem_of_mem_tail h)) .inr

/-- A line that lists words begins with them. -/
theorem State.line_of_source {s : State} {w : EvWord} {l : List EvWord} (h : s.source = w :: l) :
    s.line = w :: l := by simp [State.line, h]

/-- An agenda that lists entries begins with them. -/
theorem State.agenda_of_offers {s : State} {o : Offer} {l : List Offer} (h : s.offers = o :: l) :
    s.agenda = o :: l := by simp [State.agenda, h]

theorem readValue_ok {α : Type} {o : Option α} {a : α} : readValue o = .ok a ↔ o = some a := by
  cases o <;> simp [readValue]

/-- `collect` answers exactly when every cell holds a value, and then with those values. -/
theorem collect_eq_some {α : Type} (l : List (Option α)) (r : List α) :
    (collect l).map (·.val) = some r ↔ l = r.map some := by
  induction l generalizing r with
  | nil => simp [collect]
  | cons a t ih =>
    cases a with
    | none => cases r <;> simp [collect]
    | some a =>
      cases h : collect t with
      | none =>
        have ht : ∀ r' : List α, t ≠ r'.map some := fun r' hr => by
          simpa [h] using (ih r').2 hr
        cases r with
        | nil => simp [collect, h]
        | cons b r =>
          simpa [collect, h] using fun _ => ht r
      | some v =>
        have hv : t = v.val.map some := (ih v.val).1 (by simp [h])
        cases r with
        | nil => simp [collect, h]
        | cons b r =>
          constructor
          · intro hr
            have hr' : a = b ∧ v.val = r := by simpa [collect, h] using hr
            simp [hr'.1, hv, hr'.2]
          · intro hr
            have hr' : a = b ∧ t = r.map some := by simpa using hr
            have hvr : v.val = r := by simpa [h] using (ih r).2 hr'.2
            simp [collect, h, hr'.1, hvr]

/-- The buffer reads as the frame `f` exactly when its cells hold f's bytes. -/
theorem readFrame_ok {buf : FrameBuffer} {f : RawFrame} :
    readFrame buf = .ok f ↔ buf.toList = f.toList.map some := by
  rw [← collect_eq_some]
  unfold readFrame
  split
  · simp_all
  · rename_i r h heq
    simp only [heq, Option.map_some, Option.some.injEq, Except.ok.injEq]
    constructor
    · rintro rfl
      simp
    · intro hr
      apply Vector.toList_inj.1
      simpa using hr

/-- The same, cell by cell. -/
theorem readFrame_ok_iff_cells {buf : FrameBuffer} {f : RawFrame} :
    readFrame buf = .ok f ↔ ∀ i : Fin 16, buf[i] = some f[i] := by
  rw [readFrame_ok]
  constructor
  · intro h i
    have hi := congrArg (fun l => l[i.val]?) h
    simpa using hi
  · intro h
    apply List.ext_getElem
    · simp
    · intro n h1 h2
      have hn : n < 16 := by simpa using h1
      simpa using h ⟨n, hn⟩

/-- A buffer with an empty cell cannot be read whole. -/
theorem readFrame_error {buf : FrameBuffer} {e : Fault} (h : readFrame buf = .error e) :
    e = .readOfNone ∧ ∃ i : Fin 16, buf[i] = none := by
  constructor
  · unfold readFrame at h
    split at h <;> simp_all
  · by_contra hne
    have hsome : ∀ i : Fin 16, buf[i].isSome := fun i => by
      rw [Option.isSome_iff_ne_none]
      exact fun hi => hne ⟨i, hi⟩
    let f : RawFrame := Vector.ofFn fun i => buf[i].get (hsome i)
    have hok : readFrame buf = .ok f := readFrame_ok_iff_cells.2 fun i => by simp [f]
    simp [hok] at h

/-- `buf[i] <- v` writes cell i and no other (R13). -/
theorem memWrite_getElem (buf : FrameBuffer) (i : Nat) (v : Byte) (j : Fin 16) :
    (memWrite buf i v)[j] = if i = j.val then some v else buf[j] := by
  simp [memWrite, Vector.getElem_setIfInBounds]

/-- The payload's bytes are frame bytes 2 to 15 (R52). -/
theorem payloadOf_getElem (f : RawFrame) (j : Fin 14) : (payloadOf f)[j] = f[j.val + 2] := by
  fin_cases j <;> rfl

/-- Bit i of a packed word is the i-th bit packed, and every bit above is 0. -/
theorem packButtons_getLsbD (f : Nat → Bool) (n i : Nat) (hi : i < 48) :
    (packButtons f n).getLsbD i = (decide (i < n) && f i) := by
  induction n with
  | zero => simp [packButtons]
  | succ n ih =>
    simp only [packButtons, BitVec.getLsbD_or, ih, BitVec.getLsbD_shiftLeft, BitVec.getLsbD_setWidth,
      BitVec.getLsbD_ofBool]
    rcases Nat.lt_trichotomy i n with h | h | h
    · simp [h, Nat.lt_succ_of_lt h]
    · subst h; simp [hi]
    · have h1 : ¬ i < n := by omega
      have h2 : ¬ i < n + 1 := by omega
      have h3 : i - n ≠ 0 := by omega
      simp [h1, h2, h3]

/-- A payload is no contract violation (R145). -/
theorem decodePayload_payload (p : Payload) : decodePayload p.toList = .ok (buttonState p.toList) := by
  simp [decodePayload, payloadLen]

/-- In a step of the block a contract violation is the one trap entry (R175). -/
theorem decodeInStep_wrongLength {q : List Byte} (h : q.length ≠ payloadLen) (done s : State) :
    decodeInStep q done s = s.raiseFatal .contractViolation := by
  simp [decodeInStep, decodePayload, h]

/-- In the block the decoder never raises (R145, R175). -/
@[simp] theorem decodeInStep_payload (p : Payload) (done s : State) : decodeInStep p.toList done s = done := by
  simp [decodeInStep, decodePayload_payload]

/-- The decoder answers a value exactly on 14 bytes, and then the ButtonState (R143). -/
theorem decodePayload_ok {q : List Byte} {b : ButtonState} :
    decodePayload q = .ok b ↔ q.length = payloadLen ∧ buttonState q = b := by
  unfold decodePayload
  split <;> simp_all

end Sys2Proof.Machine
end

