-- ==== Sys2Proof/Laws/PerInstr.lean ====
section
/-! SUPPORT. Facts of every operation as syntax, one lemma per constructor: the operation's own phase is one
that the operation map selects it in (30_encoding.md R73). -/

namespace Sys2Proof.Laws.HomePhase

/-- The operation map has the operation in its home phase. -/
def Statement (i : Instr) : Prop := decodeOp i.homePhase (encode i) = .ok i

theorem srcByteFill (b : Byte) : Statement (.srcByteFill b) := by
  simp [Statement, Instr.homePhase, encode, decodeOp, decodeEv]

theorem srcByteDiscard (b : Byte) : Statement (.srcByteDiscard b) := by
  simp [Statement, Instr.homePhase, encode, decodeOp, decodeEv]

theorem srcTimeoutFill (d : Byte) : Statement (.srcTimeoutFill d) := by
  simp [Statement, Instr.homePhase, encode, decodeOp, decodeEv]

theorem srcTimeoutDiscard (d : Byte) : Statement (.srcTimeoutDiscard d) := by
  simp [Statement, Instr.homePhase, encode, decodeOp, decodeEv]

theorem srcIoerr (d : Byte) : Statement (.srcIoerr d) := by
  simp [Statement, Instr.homePhase, encode, decodeOp, decodeEv]

theorem srcReserved (d : Byte) : Statement (.srcReserved d) := by
  simp [Statement, Instr.homePhase, encode, decodeOp, decodeEv]

theorem check : Statement .check := rfl

theorem outAccept : Statement .outAccept := rfl

theorem outAcceptIgnored : Statement .outAcceptIgnored := rfl

theorem reset : Statement .reset := rfl

theorem decode (q : List Byte) : Statement (.decode q) := rfl

end Sys2Proof.Laws.HomePhase
end

