-- ==== Sys2Proof/Laws/State.lean ====
section
/-! SUPPORT. One lemma per field of the state per named update, so that no later proof unfolds an update. -/

namespace Sys2Proof.Machine

/-! ### `raiseFatal`: raise Fatal(c), R172 -/

@[simp] theorem State.raiseFatal_config (c : Cause) (s : State) : (s.raiseFatal c).config = s.config := rfl
@[simp] theorem State.raiseFatal_phase (c : Cause) (s : State) : (s.raiseFatal c).phase = .fatal := rfl
@[simp] theorem State.raiseFatal_buf (c : Cause) (s : State) : (s.raiseFatal c).buf = s.buf := rfl
@[simp] theorem State.raiseFatal_cnt (c : Cause) (s : State) : (s.raiseFatal c).cnt = s.cnt := rfl
@[simp] theorem State.raiseFatal_skip (c : Cause) (s : State) : (s.raiseFatal c).skip = s.skip := rfl
@[simp] theorem State.raiseFatal_rem (c : Cause) (s : State) : (s.raiseFatal c).rem = s.rem := rfl
@[simp] theorem State.raiseFatal_cause (c : Cause) (s : State) : (s.raiseFatal c).cause = c := rfl
@[simp] theorem State.raiseFatal_outPayload (c : Cause) (s : State) : (s.raiseFatal c).outPayload = s.outPayload := rfl
@[simp] theorem State.raiseFatal_source (c : Cause) (s : State) : (s.raiseFatal c).source = s.source := rfl
@[simp] theorem State.raiseFatal_sourceLoop (c : Cause) (s : State) : (s.raiseFatal c).sourceLoop = s.sourceLoop := rfl
@[simp] theorem State.raiseFatal_offers (c : Cause) (s : State) : (s.raiseFatal c).offers = s.offers := rfl
@[simp] theorem State.raiseFatal_offersLoop (c : Cause) (s : State) : (s.raiseFatal c).offersLoop = s.offersLoop := rfl
@[simp] theorem State.raiseFatal_consumed (c : Cause) (s : State) : (s.raiseFatal c).consumed = s.consumed := rfl
@[simp] theorem State.raiseFatal_emitted (c : Cause) (s : State) : (s.raiseFatal c).emitted = s.emitted := rfl
@[simp] theorem State.raiseFatal_decoded (c : Cause) (s : State) : (s.raiseFatal c).decoded = s.decoded := rfl

/-! ### `beginFill`: a fill starts from empty -/

@[simp] theorem State.beginFill_config (s : State) : (s.beginFill).config = s.config := rfl
@[simp] theorem State.beginFill_phase (s : State) : (s.beginFill).phase = .fill := rfl
@[simp] theorem State.beginFill_buf (s : State) : (s.beginFill).buf = s.buf := rfl
@[simp] theorem State.beginFill_cnt (s : State) : (s.beginFill).cnt = 0#5 := rfl
@[simp] theorem State.beginFill_skip (s : State) : (s.beginFill).skip = s.skip := rfl
@[simp] theorem State.beginFill_rem (s : State) : (s.beginFill).rem = s.rem := rfl
@[simp] theorem State.beginFill_cause (s : State) : (s.beginFill).cause = s.cause := rfl
@[simp] theorem State.beginFill_outPayload (s : State) : (s.beginFill).outPayload = s.outPayload := rfl
@[simp] theorem State.beginFill_source (s : State) : (s.beginFill).source = s.source := rfl
@[simp] theorem State.beginFill_sourceLoop (s : State) : (s.beginFill).sourceLoop = s.sourceLoop := rfl
@[simp] theorem State.beginFill_offers (s : State) : (s.beginFill).offers = s.offers := rfl
@[simp] theorem State.beginFill_offersLoop (s : State) : (s.beginFill).offersLoop = s.offersLoop := rfl
@[simp] theorem State.beginFill_consumed (s : State) : (s.beginFill).consumed = s.consumed := rfl
@[simp] theorem State.beginFill_emitted (s : State) : (s.beginFill).emitted = s.emitted := rfl
@[simp] theorem State.beginFill_decoded (s : State) : (s.beginFill).decoded = s.decoded := rfl

/-! ### `storeByte`: one byte into the buffer, R100 -/

@[simp] theorem State.storeByte_config (b : Byte) (s : State) : (s.storeByte b).config = s.config := rfl
@[simp] theorem State.storeByte_phase (b : Byte) (s : State) : (s.storeByte b).phase = if s.cnt = 15#5 then .check else .fill := rfl
@[simp] theorem State.storeByte_buf (b : Byte) (s : State) : (s.storeByte b).buf = memWrite s.buf s.cnt.toNat b := rfl
@[simp] theorem State.storeByte_cnt (b : Byte) (s : State) : (s.storeByte b).cnt = s.cnt + 1#5 := rfl
@[simp] theorem State.storeByte_skip (b : Byte) (s : State) : (s.storeByte b).skip = s.skip := rfl
@[simp] theorem State.storeByte_rem (b : Byte) (s : State) : (s.storeByte b).rem = s.rem := rfl
@[simp] theorem State.storeByte_cause (b : Byte) (s : State) : (s.storeByte b).cause = s.cause := rfl
@[simp] theorem State.storeByte_outPayload (b : Byte) (s : State) : (s.storeByte b).outPayload = s.outPayload := rfl
@[simp] theorem State.storeByte_source (b : Byte) (s : State) : (s.storeByte b).source = s.source := rfl
@[simp] theorem State.storeByte_sourceLoop (b : Byte) (s : State) : (s.storeByte b).sourceLoop = s.sourceLoop := rfl
@[simp] theorem State.storeByte_offers (b : Byte) (s : State) : (s.storeByte b).offers = s.offers := rfl
@[simp] theorem State.storeByte_offersLoop (b : Byte) (s : State) : (s.storeByte b).offersLoop = s.offersLoop := rfl
@[simp] theorem State.storeByte_consumed (b : Byte) (s : State) : (s.storeByte b).consumed = s.consumed := rfl
@[simp] theorem State.storeByte_emitted (b : Byte) (s : State) : (s.storeByte b).emitted = s.emitted := rfl
@[simp] theorem State.storeByte_decoded (b : Byte) (s : State) : (s.storeByte b).decoded = s.decoded := rfl

/-! ### `setRem`: rem <- n -/

@[simp] theorem State.setRem_config (n : BitVec 4) (s : State) : (s.setRem n).config = s.config := rfl
@[simp] theorem State.setRem_phase (n : BitVec 4) (s : State) : (s.setRem n).phase = s.phase := rfl
@[simp] theorem State.setRem_buf (n : BitVec 4) (s : State) : (s.setRem n).buf = s.buf := rfl
@[simp] theorem State.setRem_cnt (n : BitVec 4) (s : State) : (s.setRem n).cnt = s.cnt := rfl
@[simp] theorem State.setRem_skip (n : BitVec 4) (s : State) : (s.setRem n).skip = s.skip := rfl
@[simp] theorem State.setRem_rem (n : BitVec 4) (s : State) : (s.setRem n).rem = n := rfl
@[simp] theorem State.setRem_cause (n : BitVec 4) (s : State) : (s.setRem n).cause = s.cause := rfl
@[simp] theorem State.setRem_outPayload (n : BitVec 4) (s : State) : (s.setRem n).outPayload = s.outPayload := rfl
@[simp] theorem State.setRem_source (n : BitVec 4) (s : State) : (s.setRem n).source = s.source := rfl
@[simp] theorem State.setRem_sourceLoop (n : BitVec 4) (s : State) : (s.setRem n).sourceLoop = s.sourceLoop := rfl
@[simp] theorem State.setRem_offers (n : BitVec 4) (s : State) : (s.setRem n).offers = s.offers := rfl
@[simp] theorem State.setRem_offersLoop (n : BitVec 4) (s : State) : (s.setRem n).offersLoop = s.offersLoop := rfl
@[simp] theorem State.setRem_consumed (n : BitVec 4) (s : State) : (s.setRem n).consumed = s.consumed := rfl
@[simp] theorem State.setRem_emitted (n : BitVec 4) (s : State) : (s.setRem n).emitted = s.emitted := rfl
@[simp] theorem State.setRem_decoded (n : BitVec 4) (s : State) : (s.setRem n).decoded = s.decoded := rfl

/-! ### `present`: the Aligned path of CHECK -/

@[simp] theorem State.present_config (p : Payload) (s : State) : (s.present p).config = s.config := rfl
@[simp] theorem State.present_phase (p : Payload) (s : State) : (s.present p).phase = .emit := rfl
@[simp] theorem State.present_buf (p : Payload) (s : State) : (s.present p).buf = s.buf := rfl
@[simp] theorem State.present_cnt (p : Payload) (s : State) : (s.present p).cnt = s.cnt := rfl
@[simp] theorem State.present_skip (p : Payload) (s : State) : (s.present p).skip = s.skip := rfl
@[simp] theorem State.present_rem (p : Payload) (s : State) : (s.present p).rem = s.rem := rfl
@[simp] theorem State.present_cause (p : Payload) (s : State) : (s.present p).cause = s.cause := rfl
@[simp] theorem State.present_outPayload (p : Payload) (s : State) : (s.present p).outPayload = some p := rfl
@[simp] theorem State.present_source (p : Payload) (s : State) : (s.present p).source = s.source := rfl
@[simp] theorem State.present_sourceLoop (p : Payload) (s : State) : (s.present p).sourceLoop = s.sourceLoop := rfl
@[simp] theorem State.present_offers (p : Payload) (s : State) : (s.present p).offers = s.offers := rfl
@[simp] theorem State.present_offersLoop (p : Payload) (s : State) : (s.present p).offersLoop = s.offersLoop := rfl
@[simp] theorem State.present_consumed (p : Payload) (s : State) : (s.present p).consumed = s.consumed := rfl
@[simp] theorem State.present_emitted (p : Payload) (s : State) : (s.present p).emitted = s.emitted ++ [p] := rfl
@[simp] theorem State.present_decoded (p : Payload) (s : State) : (s.present p).decoded = s.decoded := rfl

/-! ### `startDiscard`: the Skip path of CHECK -/

@[simp] theorem State.startDiscard_config (n : BitVec 4) (s : State) : (s.startDiscard n).config = s.config := rfl
@[simp] theorem State.startDiscard_phase (n : BitVec 4) (s : State) : (s.startDiscard n).phase = .discard := rfl
@[simp] theorem State.startDiscard_buf (n : BitVec 4) (s : State) : (s.startDiscard n).buf = s.buf := rfl
@[simp] theorem State.startDiscard_cnt (n : BitVec 4) (s : State) : (s.startDiscard n).cnt = s.cnt := rfl
@[simp] theorem State.startDiscard_skip (n : BitVec 4) (s : State) : (s.startDiscard n).skip = some n := rfl
@[simp] theorem State.startDiscard_rem (n : BitVec 4) (s : State) : (s.startDiscard n).rem = n := rfl
@[simp] theorem State.startDiscard_cause (n : BitVec 4) (s : State) : (s.startDiscard n).cause = s.cause := rfl
@[simp] theorem State.startDiscard_outPayload (n : BitVec 4) (s : State) : (s.startDiscard n).outPayload = s.outPayload := rfl
@[simp] theorem State.startDiscard_source (n : BitVec 4) (s : State) : (s.startDiscard n).source = s.source := rfl
@[simp] theorem State.startDiscard_sourceLoop (n : BitVec 4) (s : State) : (s.startDiscard n).sourceLoop = s.sourceLoop := rfl
@[simp] theorem State.startDiscard_offers (n : BitVec 4) (s : State) : (s.startDiscard n).offers = s.offers := rfl
@[simp] theorem State.startDiscard_offersLoop (n : BitVec 4) (s : State) : (s.startDiscard n).offersLoop = s.offersLoop := rfl
@[simp] theorem State.startDiscard_consumed (n : BitVec 4) (s : State) : (s.startDiscard n).consumed = s.consumed := rfl
@[simp] theorem State.startDiscard_emitted (n : BitVec 4) (s : State) : (s.startDiscard n).emitted = s.emitted := rfl
@[simp] theorem State.startDiscard_decoded (n : BitVec 4) (s : State) : (s.startDiscard n).decoded = s.decoded := rfl

/-! ### `dropPayload`: out_payload <- none -/

@[simp] theorem State.dropPayload_config (s : State) : (s.dropPayload).config = s.config := rfl
@[simp] theorem State.dropPayload_phase (s : State) : (s.dropPayload).phase = s.phase := rfl
@[simp] theorem State.dropPayload_buf (s : State) : (s.dropPayload).buf = s.buf := rfl
@[simp] theorem State.dropPayload_cnt (s : State) : (s.dropPayload).cnt = s.cnt := rfl
@[simp] theorem State.dropPayload_skip (s : State) : (s.dropPayload).skip = s.skip := rfl
@[simp] theorem State.dropPayload_rem (s : State) : (s.dropPayload).rem = s.rem := rfl
@[simp] theorem State.dropPayload_cause (s : State) : (s.dropPayload).cause = s.cause := rfl
@[simp] theorem State.dropPayload_outPayload (s : State) : (s.dropPayload).outPayload = none := rfl
@[simp] theorem State.dropPayload_source (s : State) : (s.dropPayload).source = s.source := rfl
@[simp] theorem State.dropPayload_sourceLoop (s : State) : (s.dropPayload).sourceLoop = s.sourceLoop := rfl
@[simp] theorem State.dropPayload_offers (s : State) : (s.dropPayload).offers = s.offers := rfl
@[simp] theorem State.dropPayload_offersLoop (s : State) : (s.dropPayload).offersLoop = s.offersLoop := rfl
@[simp] theorem State.dropPayload_consumed (s : State) : (s.dropPayload).consumed = s.consumed := rfl
@[simp] theorem State.dropPayload_emitted (s : State) : (s.dropPayload).emitted = s.emitted := rfl
@[simp] theorem State.dropPayload_decoded (s : State) : (s.dropPayload).decoded = s.decoded := rfl

/-! ### `resetBlock`: R200 -/

@[simp] theorem State.resetBlock_config (s : State) : (s.resetBlock).config = s.config := rfl
@[simp] theorem State.resetBlock_phase (s : State) : (s.resetBlock).phase = .fill := rfl
@[simp] theorem State.resetBlock_buf (s : State) : (s.resetBlock).buf = Vector.replicate 16 none := rfl
@[simp] theorem State.resetBlock_cnt (s : State) : (s.resetBlock).cnt = 0#5 := rfl
@[simp] theorem State.resetBlock_skip (s : State) : (s.resetBlock).skip = none := rfl
@[simp] theorem State.resetBlock_rem (s : State) : (s.resetBlock).rem = 0#4 := rfl
@[simp] theorem State.resetBlock_cause (s : State) : (s.resetBlock).cause = .none := rfl
@[simp] theorem State.resetBlock_outPayload (s : State) : (s.resetBlock).outPayload = none := rfl
@[simp] theorem State.resetBlock_source (s : State) : (s.resetBlock).source = s.source := rfl
@[simp] theorem State.resetBlock_sourceLoop (s : State) : (s.resetBlock).sourceLoop = s.sourceLoop := rfl
@[simp] theorem State.resetBlock_offers (s : State) : (s.resetBlock).offers = s.offers := rfl
@[simp] theorem State.resetBlock_offersLoop (s : State) : (s.resetBlock).offersLoop = s.offersLoop := rfl
@[simp] theorem State.resetBlock_consumed (s : State) : (s.resetBlock).consumed = s.consumed := rfl
@[simp] theorem State.resetBlock_emitted (s : State) : (s.resetBlock).emitted = s.emitted := rfl
@[simp] theorem State.resetBlock_decoded (s : State) : (s.resetBlock).decoded = s.decoded := rfl

/-! ### `setDecoded`: the decoder's return channel -/

@[simp] theorem State.setDecoded_config (b : ButtonState) (s : State) : (s.setDecoded b).config = s.config := rfl
@[simp] theorem State.setDecoded_phase (b : ButtonState) (s : State) : (s.setDecoded b).phase = s.phase := rfl
@[simp] theorem State.setDecoded_buf (b : ButtonState) (s : State) : (s.setDecoded b).buf = s.buf := rfl
@[simp] theorem State.setDecoded_cnt (b : ButtonState) (s : State) : (s.setDecoded b).cnt = s.cnt := rfl
@[simp] theorem State.setDecoded_skip (b : ButtonState) (s : State) : (s.setDecoded b).skip = s.skip := rfl
@[simp] theorem State.setDecoded_rem (b : ButtonState) (s : State) : (s.setDecoded b).rem = s.rem := rfl
@[simp] theorem State.setDecoded_cause (b : ButtonState) (s : State) : (s.setDecoded b).cause = s.cause := rfl
@[simp] theorem State.setDecoded_outPayload (b : ButtonState) (s : State) : (s.setDecoded b).outPayload = s.outPayload := rfl
@[simp] theorem State.setDecoded_source (b : ButtonState) (s : State) : (s.setDecoded b).source = s.source := rfl
@[simp] theorem State.setDecoded_sourceLoop (b : ButtonState) (s : State) : (s.setDecoded b).sourceLoop = s.sourceLoop := rfl
@[simp] theorem State.setDecoded_offers (b : ButtonState) (s : State) : (s.setDecoded b).offers = s.offers := rfl
@[simp] theorem State.setDecoded_offersLoop (b : ButtonState) (s : State) : (s.setDecoded b).offersLoop = s.offersLoop := rfl
@[simp] theorem State.setDecoded_consumed (b : ButtonState) (s : State) : (s.setDecoded b).consumed = s.consumed := rfl
@[simp] theorem State.setDecoded_emitted (b : ButtonState) (s : State) : (s.setDecoded b).emitted = s.emitted := rfl
@[simp] theorem State.setDecoded_decoded (b : ButtonState) (s : State) : (s.setDecoded b).decoded = some b := rfl

/-! ### `wait`: the step's entry is over -/

@[simp] theorem State.wait_config (s : State) : (s.wait).config = s.config := rfl
@[simp] theorem State.wait_phase (s : State) : (s.wait).phase = s.phase := rfl
@[simp] theorem State.wait_buf (s : State) : (s.wait).buf = s.buf := rfl
@[simp] theorem State.wait_cnt (s : State) : (s.wait).cnt = s.cnt := rfl
@[simp] theorem State.wait_skip (s : State) : (s.wait).skip = s.skip := rfl
@[simp] theorem State.wait_rem (s : State) : (s.wait).rem = s.rem := rfl
@[simp] theorem State.wait_cause (s : State) : (s.wait).cause = s.cause := rfl
@[simp] theorem State.wait_outPayload (s : State) : (s.wait).outPayload = s.outPayload := rfl
@[simp] theorem State.wait_source (s : State) : (s.wait).source = s.source := rfl
@[simp] theorem State.wait_sourceLoop (s : State) : (s.wait).sourceLoop = s.sourceLoop := rfl
@[simp] theorem State.wait_offers (s : State) : (s.wait).offers = s.agenda.tail := rfl
@[simp] theorem State.wait_offersLoop (s : State) : (s.wait).offersLoop = s.offersLoop := rfl
@[simp] theorem State.wait_consumed (s : State) : (s.wait).consumed = s.consumed := rfl
@[simp] theorem State.wait_emitted (s : State) : (s.wait).emitted = s.emitted := rfl
@[simp] theorem State.wait_decoded (s : State) : (s.wait).decoded = s.decoded := rfl

/-! ### `consume`: a source event is consumed -/

@[simp] theorem State.consume_config (s : State) : (s.consume).config = s.config := rfl
@[simp] theorem State.consume_phase (s : State) : (s.consume).phase = s.phase := rfl
@[simp] theorem State.consume_buf (s : State) : (s.consume).buf = s.buf := rfl
@[simp] theorem State.consume_cnt (s : State) : (s.consume).cnt = s.cnt := rfl
@[simp] theorem State.consume_skip (s : State) : (s.consume).skip = s.skip := rfl
@[simp] theorem State.consume_rem (s : State) : (s.consume).rem = s.rem := rfl
@[simp] theorem State.consume_cause (s : State) : (s.consume).cause = s.cause := rfl
@[simp] theorem State.consume_outPayload (s : State) : (s.consume).outPayload = s.outPayload := rfl
@[simp] theorem State.consume_source (s : State) : (s.consume).source = s.line.tail := rfl
@[simp] theorem State.consume_sourceLoop (s : State) : (s.consume).sourceLoop = s.sourceLoop := rfl
@[simp] theorem State.consume_offers (s : State) : (s.consume).offers = s.agenda.tail := rfl
@[simp] theorem State.consume_offersLoop (s : State) : (s.consume).offersLoop = s.offersLoop := rfl
@[simp] theorem State.consume_consumed (s : State) : (s.consume).consumed = s.consumed + 1 := rfl
@[simp] theorem State.consume_emitted (s : State) : (s.consume).emitted = s.emitted := rfl
@[simp] theorem State.consume_decoded (s : State) : (s.consume).decoded = s.decoded := rfl

/-! ### `receive`: one step's feed arrives -/

@[simp] theorem State.receive_config (f : Feed) (s : State) : (s.receive f).config = s.config := rfl
@[simp] theorem State.receive_phase (f : Feed) (s : State) : (s.receive f).phase = s.phase := rfl
@[simp] theorem State.receive_buf (f : Feed) (s : State) : (s.receive f).buf = s.buf := rfl
@[simp] theorem State.receive_cnt (f : Feed) (s : State) : (s.receive f).cnt = s.cnt := rfl
@[simp] theorem State.receive_skip (f : Feed) (s : State) : (s.receive f).skip = s.skip := rfl
@[simp] theorem State.receive_rem (f : Feed) (s : State) : (s.receive f).rem = s.rem := rfl
@[simp] theorem State.receive_cause (f : Feed) (s : State) : (s.receive f).cause = s.cause := rfl
@[simp] theorem State.receive_outPayload (f : Feed) (s : State) : (s.receive f).outPayload = s.outPayload := rfl
@[simp] theorem State.receive_source (f : Feed) (s : State) : (s.receive f).source = s.source ++ f.words := rfl
@[simp] theorem State.receive_sourceLoop (f : Feed) (s : State) : (s.receive f).sourceLoop = s.sourceLoop := rfl
@[simp] theorem State.receive_offers (f : Feed) (s : State) : (s.receive f).offers = [f.offer] := rfl
@[simp] theorem State.receive_offersLoop (f : Feed) (s : State) : (s.receive f).offersLoop = s.offersLoop := rfl
@[simp] theorem State.receive_consumed (f : Feed) (s : State) : (s.receive f).consumed = s.consumed := rfl
@[simp] theorem State.receive_emitted (f : Feed) (s : State) : (s.receive f).emitted = s.emitted := rfl
@[simp] theorem State.receive_decoded (f : Feed) (s : State) : (s.receive f).decoded = s.decoded := rfl

end Sys2Proof.Machine
end

