-- ==== Sys2Proof/Laws/Step.lean ====
section
/-! SUPPORT. What each meaning, the arbitration and the step can do, said once: if it answers a next state,
one of the listed cases holds, and a fault or a refusal comes only from the listed ones. -/

namespace Sys2Proof.Machine

/-- SRC_BYTE.FILL stores the byte in FILL, or the block takes no event in this phase (R100, R105). -/
theorem execSrcByteFill_next {b : Byte} {s t : State} (h : execSrcByteFill b s = .next t) :
    (s.phase = .fill ∧ s.cnt ≤ 15#5 ∧ t = s.storeByte b) ∨
    (s.phase ≠ .fill ∧ s.phase ≠ .discard ∧ t = s) := by
  unfold execSrcByteFill at h
  cases hp : s.phase <;> simp only [hp] at h
  · split at h
    · rename_i hc
      exact .inl ⟨rfl, hc, by cases h; rfl⟩
    · cases h
  all_goals first | (cases h; done) | exact .inr ⟨by simp, by simp, by cases h; rfl⟩

/-- SRC_BYTE.DISCARD counts down, and starts a fill after the last byte (R101, R105). -/
theorem execSrcByteDiscard_next {b : Byte} {s t : State} (h : execSrcByteDiscard b s = .next t) :
    (s.phase = .discard ∧ s.rem = 1#4 ∧ t = (s.setRem (s.rem - 1#4)).beginFill) ∨
    (s.phase = .discard ∧ s.rem ≠ 0#4 ∧ s.rem ≠ 1#4 ∧ t = s.setRem (s.rem - 1#4)) ∨
    (s.phase ≠ .fill ∧ s.phase ≠ .discard ∧ t = s) := by
  unfold execSrcByteDiscard at h
  cases hp : s.phase <;> simp only [hp] at h
  case discard =>
    split at h
    · cases h
    · rename_i h0
      split at h
      · rename_i h1
        exact .inl ⟨rfl, h1, by cases h; rfl⟩
      · rename_i h1
        exact .inr (.inl ⟨rfl, h0, h1, by cases h; rfl⟩)
  all_goals first | (cases h; done) | exact .inr (.inr ⟨by simp, by simp, by cases h; rfl⟩)

/-- SRC_TIMEOUT.FILL restarts the fill (R102, R105). -/
theorem execSrcTimeoutFill_next {d : Byte} {s t : State} (h : execSrcTimeoutFill d s = .next t) :
    (s.phase = .fill ∧ t = s.beginFill) ∨ (s.phase ≠ .fill ∧ s.phase ≠ .discard ∧ t = s) := by
  unfold execSrcTimeoutFill at h
  cases hp : s.phase <;> simp only [hp] at h
  case fill => exact .inl ⟨rfl, by cases h; rfl⟩
  all_goals first | (cases h; done) | exact .inr ⟨by simp, by simp, by cases h; rfl⟩

/-- SRC_TIMEOUT.DISCARD restarts or resumes the discard by the mode (R104, R105). -/
theorem execSrcTimeoutDiscard_next {d : Byte} {s t : State} (h : execSrcTimeoutDiscard d s = .next t) :
    (s.phase = .discard ∧ s.config.discardTimeoutMode = .restart ∧ ∃ n, s.skip = some n ∧ t = s.setRem n) ∨
    (s.phase = .discard ∧ s.config.discardTimeoutMode = .resume ∧ t = s) ∨
    (s.phase ≠ .fill ∧ s.phase ≠ .discard ∧ t = s) := by
  unfold execSrcTimeoutDiscard at h
  cases hp : s.phase <;> simp only [hp] at h
  case discard =>
    cases hm : s.config.discardTimeoutMode <;> simp only [hm] at h
    · split at h
      · rename_i n hn
        exact .inl ⟨rfl, rfl, n, readValue_ok.1 hn, by cases h; rfl⟩
      · cases h
    · exact .inr (.inl ⟨rfl, rfl, by cases h; rfl⟩)
  all_goals first | (cases h; done) | exact .inr (.inr ⟨by simp, by simp, by cases h; rfl⟩)

/-- SRC_IOERR takes the fatal state (R103, R105). -/
theorem execSrcIoerr_next {d : Byte} {s t : State} (h : execSrcIoerr d s = .next t) :
    ((s.phase = .fill ∨ s.phase = .discard) ∧ t = s.raiseFatal .ioFailure) ∨
    (s.phase ≠ .fill ∧ s.phase ≠ .discard ∧ t = s) := by
  unfold execSrcIoerr at h
  cases hp : s.phase <;> simp only [hp] at h
  all_goals first
    | exact .inl ⟨by simp, by cases h; rfl⟩
    | exact .inr ⟨by simp, by simp, by cases h; rfl⟩

/-- CHECK presents the payload of an aligned frame or starts a discard (R120). -/
theorem execCheck_next {s t : State} (h : execCheck s = .next t) :
    (s.phase = .check ∧ ∃ f, readFrame s.buf = .ok f ∧
      ((classify s.config.loneMarkerScan f = .aligned ∧ t = s.present (payloadOf f)) ∨
       ∃ n, classify s.config.loneMarkerScan f = .skip n ∧ t = s.startDiscard n)) ∨
    (s.phase ≠ .check ∧ t = s) := by
  unfold execCheck at h
  cases hp : s.phase <;> simp only [hp] at h
  case check =>
    split at h
    · cases h
    · rename_i f hf
      split at h
      · rename_i hc
        exact .inl ⟨rfl, f, hf, .inl ⟨hc, by simpa using h.symm⟩⟩
      · rename_i n hc
        exact .inl ⟨rfl, f, hf, .inr ⟨n, hc, by cases h; rfl⟩⟩
  all_goals exact .inr ⟨by simp, by cases h; rfl⟩

/-- CHECK on an aligned frame presents its payload (R120, R145). -/
theorem execCheck_aligned {s : State} {f : RawFrame} (hp : s.phase = .check) (hf : readFrame s.buf = .ok f)
    (hc : classify s.config.loneMarkerScan f = .aligned) : execCheck s = .next (s.present (payloadOf f)) := by
  simp [execCheck, hp, hf, hc]

/-- CHECK on any other frame starts a discard (R120). -/
theorem execCheck_skip {s : State} {f : RawFrame} {n : BitVec 4} (hp : s.phase = .check)
    (hf : readFrame s.buf = .ok f) (hc : classify s.config.loneMarkerScan f = .skip n) :
    execCheck s = .next (s.startDiscard n) := by
  simp [execCheck, hp, hf, hc]

/-- OUT_ACCEPT answers a next state in EMIT only (R141). -/
theorem execOutAccept_next {s t : State} (h : execOutAccept s = .next t) :
    s.phase = .emit ∧ t = s.dropPayload.beginFill := by
  unfold execOutAccept at h
  cases hp : s.phase <;> simp only [hp] at h <;> first | (cases h; done) | exact ⟨rfl, by cases h; rfl⟩

/-- OUT_ACCEPT.IGNORED writes nothing (R142). -/
theorem execOutAcceptIgnored_next {s t : State} (h : execOutAcceptIgnored s = .next t) :
    s.phase ≠ .emit ∧ t = s := by
  unfold execOutAcceptIgnored at h
  cases hp : s.phase <;> simp only [hp] at h <;> first | (cases h; done) | exact ⟨by simp, by cases h; rfl⟩

/-- DECODE returns its value, and only on a length of 14 (R143). -/
theorem execDecode_next {q : List Byte} {s t : State} (h : execDecode q s = .next t) :
    q.length = payloadLen ∧ t = s.setDecoded (buttonState q) := by
  unfold execDecode decodePayload at h
  by_cases hl : q.length = payloadLen
  · simp only [hl, if_true] at h
    exact ⟨hl, by cases h; rfl⟩
  · simp [hl] at h

/-- DECODE faults exactly on another length, and records it (R175). -/
theorem execDecode_fault {q : List Byte} {s : State} {e : Fault} :
    execDecode q s = .fault e ↔ q.length ≠ payloadLen ∧ e = .contractViolation q.length := by
  unfold execDecode decodePayload
  by_cases hl : q.length = payloadLen <;> simp [hl, eq_comm]

/-- What the arbitration takes in a step of the block, in the order of R201, R106 and R73. -/
theorem arbitrate_ports (p : Phase) (rst ack stall : Bool) (source : List EvWord) :
    arbitrate p (.ports rst ack stall) source =
      if rst then some (.rst 1#1)
      else match offeredEvent stall source with
        | none   => selectByPhase p ack none
        | some w => if evKind w = .reserved then some (.ev w) else selectByPhase p ack (some w) := rfl

/-- An event label is the word at the head of the line. -/
theorem arbitrate_ev {p : Phase} {o : Offer} {source : List EvWord} {w : EvWord}
    (h : arbitrate p o source = some (.ev w)) : source.head? = some w := by
  cases o with
  | decode q => simp [arbitrate] at h
  | ports rst ack stall =>
    rw [arbitrate_ports] at h
    cases rst
    · simp only [Bool.false_eq_true, if_false] at h
      cases hs : offeredEvent stall source with
      | none => cases p <;> cases ack <;> simp [hs, selectByPhase] at h
      | some v =>
        have hv : source.head? = some v := by
          unfold offeredEvent at hs
          cases stall <;> simp_all
        simp only [hs] at h
        split at h
        · simp_all
        · cases p <;> cases ack <;> simp [selectByPhase] at h <;> simp_all
    · simp at h

/-- Every label the arbitration takes decodes in its phase: the map is total on what is taken (R73). -/
theorem arbitrate_decodes {p : Phase} {o : Offer} {source : List EvWord} {sel : Selector}
    (h : arbitrate p o source = some sel) : ∃ i, decodeOp p sel = .ok i := by
  have hint : decodeOp .check .int = .ok .check := rfl
  have hack : ∀ p, ∃ i, decodeOp p (.ack 1#1) = .ok i := fun p => by cases p <;> exact ⟨_, rfl⟩
  have hev : ∀ w, evKind w = .reserved ∨ p = .fill ∨ p = .discard → ∃ i, decodeOp p (.ev w) = .ok i := by
    intro w hw
    show ∃ i, decodeEv p w = .ok i
    unfold decodeEv
    rcases hw with hw | hw | hw
    · rw [hw]; exact ⟨_, rfl⟩
    · subst hw; cases evKind w <;> exact ⟨_, rfl⟩
    · subst hw; cases evKind w <;> exact ⟨_, rfl⟩
  cases o with
  | decode q =>
    simp only [arbitrate, Option.some.injEq] at h
    subst h
    exact ⟨_, rfl⟩
  | ports rst ack stall =>
    rw [arbitrate_ports] at h
    cases rst
    · simp only [Bool.false_eq_true, if_false] at h
      cases hs : offeredEvent stall source with
      | none =>
        cases p <;> cases ack <;> simp [hs, selectByPhase] at h <;> subst h
        all_goals first | exact ⟨_, hint⟩ | exact hack _
      | some v =>
        simp only [hs] at h
        split at h
        · rename_i hv
          simp only [Option.some.injEq] at h
          subst h
          exact hev v (.inl hv)
        · cases p <;> cases ack <;> simp [selectByPhase] at h <;> subst h
          all_goals first | exact ⟨_, hint⟩ | exact hack _ | exact hev _ (by simp)
    · simp only [if_true, Option.some.injEq] at h
      subst h
      exact ⟨_, rfl⟩

/-- A step waits, or runs the operation its label decodes to; it has no other case. -/
theorem step_cases (s : State) :
    (s.label = none ∧ step s = .next s.wait) ∨
    ∃ sel i, s.label = some sel ∧ decodeOp s.phase sel = .ok i ∧ step s = exec i (s.advance sel) := by
  unfold step takeStep
  cases hl : s.label with
  | none => exact .inl ⟨rfl, rfl⟩
  | some sel =>
    obtain ⟨i, hi⟩ := arbitrate_decodes hl
    exact .inr ⟨sel, i, rfl, hi, by simp [hi]⟩

end Sys2Proof.Machine
end

