-- ==== Sys2Proof/Laws/Run.lean ====
section
/-! SUPPORT. Runs of the machine behind the host's interface, one step and several at a time. -/

namespace Sys2Proof.Machine

/-- A run of no steps. -/
theorem run_zero (s : State) : Host.Core.run Sys2Proof.core 0 s = Host.Outcome.next (σ := State) s := rfl

/-- A run whose first step answers a next state goes on from there. -/
theorem run_succ_next {n : Nat} {s t : State} (h : step s = .next t) :
    Host.Core.run Sys2Proof.core (n + 1) s = Host.Core.run Sys2Proof.core n t := by
  have hc : Sys2Proof.core.step s = .next t := h
  simp [Host.Core.run, hc]

/-- A run whose first step refuses is refused. -/
theorem run_succ_refused {n : Nat} {s : State} {r : Refusal} (h : step s = .refused r) :
    Host.Core.run Sys2Proof.core (n + 1) s = .refused r := by
  have hc : Sys2Proof.core.step s = .refused r := h
  simp [Host.Core.run, hc]

/-- A run in two parts. -/
theorem run_add {m n : Nat} {s t : State} (h : Host.Core.run Sys2Proof.core m s = .next t) :
    Host.Core.run Sys2Proof.core (m + n) s = Host.Core.run Sys2Proof.core n t := by
  induction m generalizing s with
  | zero =>
    have hst : s = t := by
      have := (run_zero s).symm.trans h
      injection this
    rw [Nat.zero_add, hst]
  | succ m ih =>
    rw [Nat.add_right_comm]
    cases hs : step s with
    | next u =>
      rw [run_succ_next hs] at h
      rw [run_succ_next hs]
      exact ih h
    | fault r =>
      have hc : Sys2Proof.core.step s = .fault r := hs
      simp [Host.Core.run, hc] at h
    | refused r => rw [run_succ_refused hs] at h; cases h

/-- A run under an environment, one step longer. -/
theorem runUnder_succ_next {env : Nat → Feed} {n : Nat} {s t : State} (h : runUnder env n s = .next t) :
    runUnder env (n + 1) s = step (t.receive (env n)) := by
  simp [runUnder, h, andThen]

end Sys2Proof.Machine
end

