-- ==== Sys2Proof/Tests/Slice0.lean ====
section
/-! SUPPORT. The model's own tests. Every expected value is from spec/95_test_vectors.md or worked out by hand from
the named rule. After the tests, one witness for the hypotheses of each statement that has any. -/

namespace Sys2Proof.Tests

open Sys2Proof.Machine
open Host (Outcome)

/-! ### Helpers -/

/-- The next state of an outcome. -/
def nextOf : Outcome State Fault Refusal → Option State
  | .next s    => some s
  | .fault _   => none
  | .refused _ => none

/-- The fault of an outcome. -/
def faultOf : Outcome State Fault Refusal → Option Fault
  | .fault e   => some e
  | .next _    => none
  | .refused _ => none

/-- The refusal of an outcome. -/
def refusalOf : Outcome State Fault Refusal → Option Refusal
  | .refused r => some r
  | .next _    => none
  | .fault _   => none

/-- STATUS after an outcome (R32). -/
def statusOf (o : Outcome State Fault Refusal) : Option (BitVec 20) := (nextOf o).map State.status

/-- A full buffer of zeros. -/
def zeroBuf : FrameBuffer := Vector.replicate 16 (some 0x00#8)

/-- The cells of a frame. -/
def cellsOf (f : RawFrame) : FrameBuffer := ⟨(f.toList.map some).toArray, by simp⟩

/-- FILL with `c` bytes of zeros stored. -/
def fillAt (c : BitVec 5) : State := { State.reset with cnt := c, buf := zeroBuf }

/-- CHECK on a frame. -/
def checkOn (f : RawFrame) : State := { State.reset with phase := .check, cnt := 16#5, buf := cellsOf f }

/-- CHECK on a frame under STOP_SKIP1. -/
def checkOnStop (f : RawFrame) : State :=
  { checkOn f with config := { loneMarkerScan := .stopSkip1, discardTimeoutMode := .restart } }

/-- DISCARD with skip `k` and `r` bytes left. -/
def discardAt (k r : BitVec 4) : State :=
  { State.reset with phase := .discard, cnt := 16#5, buf := zeroBuf, skip := some k, rem := r }

/-- DISCARD under RESUME. -/
def discardResume (k r : BitVec 4) : State :=
  { discardAt k r with config := { loneMarkerScan := .continueScan, discardTimeoutMode := .resume } }

/-- EMIT of a payload, skip 3 (the before state of EV18 and EV22). -/
def emitOf (p : Payload) : State :=
  { State.reset with phase := .emit, cnt := 16#5, buf := zeroBuf, skip := some 3#4, outPayload := some p }

/-- FATAL, cause IO_FAILURE, cnt 7 (the before state of EV19 and EV25). -/
def fatalAt : State := { State.reset with phase := .fatal, cnt := 7#5, buf := zeroBuf, cause := .ioFailure }

/-- `s` with one event word at the head of the line. -/
def offering (s : State) (w : EvWord) : State := { s with source := [w] }

/-- `s` with words that come over and over once the line is used up. -/
def endlessly (s : State) (ws : List EvWord) : State := { s with sourceLoop := ws }

/-- `s` with one entry of the neighbours. -/
def driving (s : State) (o : Offer) : State := { s with offers := [o] }

/-- The reset state with `line` on the wire. -/
def onLine (line : List EvWord) : State := { State.reset with source := line }

def payloadA : Payload := #v[0x01, 0, 0, 0, 0, 0, 0, 0x02, 0, 0, 0, 0, 0, 0]
def payloadZero : Payload := Vector.replicate 14 0x00#8
def payloadDV11 : Payload := #v[0x0F, 0xF0, 0, 0, 0, 0, 0, 0x02, 0xFF, 0x03, 0, 0, 0x01, 0]
def payloadDV10 : Payload := #v[0, 0, 0, 0, 0, 0, 0, 0x01, 0x01, 0, 0xFF, 0, 0, 0xFF]
/-- A payload whose last byte is 0xFF (FA2). -/
def payloadFA2 : Payload :=
  #v[0x11, 0x22, 0x33, 0x44, 0x55, 0x66, 0x77, 0x88, 0x99, 0xAA, 0xBB, 0xCC, 0xDD, 0xFF]

def frameCV1 : RawFrame := #v[0xFF, 0xFF, 0x01, 0, 0, 0, 0, 0, 0, 0x02, 0, 0, 0, 0, 0, 0]
def frameCV2 : RawFrame := Vector.replicate 16 0x00#8
def frameCV3 : RawFrame := #v[0, 0, 0, 0, 0, 0, 0, 0, 0, 0, 0, 0, 0, 0, 0, 0xFF]
def frameCV4 : RawFrame := #v[0, 0, 0, 0xFF, 0xFF, 0, 0, 0, 0, 0, 0, 0, 0, 0, 0, 0]
def frameCV9 : RawFrame := #v[0, 0, 0, 0, 0, 0xFF, 0, 0, 0, 0xFF, 0xFF, 0, 0, 0, 0, 0]
def frameCV15 : RawFrame := #v[0xFF, 0, 0xFF, 0xFF, 0, 0, 0, 0, 0, 0, 0, 0, 0, 0, 0, 0]

/-! ### WellFormed -/

/-- R75: the payload bus holds 14 bytes, so DECODE of 13 has no word. -/
theorem smoke_decode_13_refused : (Instr.decode (List.replicate 13 0#8)).wellFormed = false := by decide
theorem smoke_decode_15_refused : (Instr.decode (List.replicate 15 0#8)).wellFormed = false := by decide
theorem smoke_decode_14_accepted : (Instr.decode (List.replicate 14 0#8)).wellFormed = true := by decide

/-! ### Decode: words written out from R70, R71, R72 and R75 -/

/-- KIND 00, DATA 0010 1010, in FILL (R100). -/
theorem test_decode_byte_fill : decodeOp .fill (.ev 0b00_00101010#10) = .ok (.srcByteFill 0x2A#8) := by decide
theorem test_decode_byte_discard :
    decodeOp .discard (.ev 0b00_01010101#10) = .ok (.srcByteDiscard 0x55#8) := by decide
/-- KIND 01, DATA all ones (EV30). -/
theorem test_decode_timeout_fill : decodeOp .fill (.ev 0b01_11111111#10) = .ok (.srcTimeoutFill 0xFF#8) := by decide
theorem test_decode_timeout_discard :
    decodeOp .discard (.ev 0b01_00000001#10) = .ok (.srcTimeoutDiscard 0x01#8) := by decide
/-- KIND 10, DATA 0xAB (EV31). -/
theorem test_decode_ioerr :
    decodeOp .discard (.ev 0b10_10101011#10) = .ok (.srcIoerr 0xAB#8) ∧
    decodeOp .fill (.ev 0b10_00000000#10) = .ok (.srcIoerr 0x00#8) := by decide
/-- KIND 11 in every phase (EV21). -/
theorem test_decode_reserved : ∀ p ∈ [Phase.fill, .check, .discard, .emit, .fatal],
    decodeOp p (.ev 0b11_00000001#10) = .ok (.srcReserved 0x01#8) := by decide
theorem test_decode_check : decodeOp .check .int = .ok .check ∧ decodeOp .emit .int = .error .notOffered := by decide
theorem test_decode_accept : decodeOp .emit (.ack 1#1) = .ok .outAccept := by decide
theorem test_decode_accept_ignored : ∀ p ∈ [Phase.fill, .check, .discard, .fatal],
    decodeOp p (.ack 1#1) = .ok .outAcceptIgnored := by decide
theorem test_decode_reset : decodeOp .discard (.rst 1#1) = .ok .reset := by decide
/-- The dashes of R73, and a level that is 0. -/
theorem test_decode_dashes :
    decodeOp .emit (.ev 0x000#10) = .error .notOffered ∧ decodeOp .check (.ev 0x100#10) = .error .notOffered ∧
    decodeOp .fatal (.ev 0x200#10) = .error .notOffered ∧ decodeOp .emit (.ack 0#1) = .error .notAsserted ∧
    decodeOp .fill (.rst 0#1) = .error .notAsserted := by decide

/-- The table's words: the EV word in bits 9..0, the phase code above it (notes/assumptions/5.md). -/
theorem test_table_words_ev :
    decodeTableWord 16 0x002A = some (.srcByteFill 0x2A#8) ∧
    decodeTableWord 16 0x4055 = some (.srcByteDiscard 0x55#8) ∧
    decodeTableWord 16 0x0100 = some (.srcTimeoutFill 0x00#8) ∧
    decodeTableWord 16 0x41FF = some (.srcTimeoutDiscard 0xFF#8) ∧
    decodeTableWord 16 0x0200 = some (.srcIoerr 0x00#8) ∧
    decodeTableWord 16 0x0301 = some (.srcReserved 0x01#8) := by decide
/-- RST 1, ACK 1 in EMIT and in FILL, INT in CHECK. -/
theorem test_table_words_levels :
    decodeTableWord 8 1 = some .reset ∧ decodeTableWord 8 0b01_011_001 = some .outAccept ∧
    decodeTableWord 8 0b01_000_001 = some .outAcceptIgnored ∧ decodeTableWord 8 0b10_000_001 = some .check := by decide
/-- Payload byte j at bits 8j+7..8j (R75): payload A's bus is 2 at byte 7 and 1 at byte 0. -/
theorem test_table_word_payload :
    decodeTableWord 112 0x0200000000000001 = some (.decode payloadA.toList) := by decide
/-- Words the layout rejects: a phase code that is never written, and a value too wide for its bits. -/
theorem test_table_words_rejected :
    decodeTableWord 16 0xA000 = none ∧ decodeTableWord 16 0x0400 = none ∧ decodeTableWord 16 0x10000 = none ∧
    decodeTableWord 8 0b10_000_000 = none := by decide

/-! ### One step each -/

/-- EV2: buf[14] = 2A, STATUS 0x003C0. -/
theorem test_byte_fill_ev2 :
    statusOf (step (offering (fillAt 14#5) 0x02A#10)) = some 0x003C0#20 ∧
    (nextOf (step (offering (fillAt 14#5) 0x02A#10))).map (fun t => t.buf[14]) = some (some 0x2A#8) := by decide
/-- EV3: the 16th byte enters CHECK, STATUS 0x00401. -/
theorem test_byte_fill_ev3 : statusOf (step (offering (fillAt 15#5) 0x02A#10)) = some 0x00401#20 := by decide
/-- EV10 and EV12. -/
theorem test_byte_discard_counts :
    statusOf (step (offering (discardAt 3#4 3#4) 0x055#10)) = some 0x19402#20 ∧
    statusOf (step (offering (discardAt 15#4 15#4) 0x000#10)) = some 0x7F402#20 := by decide
/-- EV11: the last byte leaves DISCARD, STATUS 0x18000. -/
theorem test_byte_discard_last : statusOf (step (offering (discardAt 3#4 1#4) 0x0FF#10)) = some 0x18000#20 := by decide
/-- EV6 and EV7. -/
theorem test_timeout_fill :
    statusOf (step (offering (fillAt 5#5) 0x100#10)) = some 0x00000#20 ∧
    statusOf (step (offering (fillAt 15#5) 0x100#10)) = some 0x00000#20 := by decide
/-- EV13 (RESTART) and EV14 (RESUME). -/
theorem test_timeout_discard :
    statusOf (step (offering (discardAt 5#4 2#4) 0x100#10)) = some 0x2AC02#20 ∧
    statusOf (step (offering (discardResume 5#4 2#4) 0x100#10)) = some 0x29402#20 := by decide
/-- EV8: FATAL, cnt 7 frozen. -/
theorem test_ioerr_ev8 : statusOf (step (offering (fillAt 7#5) 0x200#10)) = some 0x001DC#20 := by decide
/-- EV17: FATAL, rem 4 frozen. -/
theorem test_ioerr_ev17 : statusOf (step (offering (discardAt 9#4 4#4) 0x200#10)) = some 0x4A41C#20 := by decide
/-- EV21: refused in EMIT, where no event would be consumed. -/
theorem test_reserved_ev21 :
    refusalOf (step (offering (emitOf payloadA) 0x301#10)) = some .reservedEventKind ∧
    refusalOf (step (offering State.reset 0x3FF#10)) = some .reservedEventKind := by decide
/-- CV1: Aligned, EMIT of payload A, STATUS 0x80403. -/
theorem test_check_cv1 :
    statusOf (step (checkOn frameCV1)) = some 0x80403#20 ∧
    (nextOf (step (checkOn frameCV1))).map State.outPayload = some (some payloadA) := by decide
/-- CV4, CV3 and CV2 from reset: 0x19C02, 0x7FC02, 0x08C02. -/
theorem test_check_skips :
    statusOf (step (checkOn frameCV4)) = some 0x19C02#20 ∧ statusOf (step (checkOn frameCV3)) = some 0x7FC02#20 ∧
    statusOf (step (checkOn frameCV2)) = some 0x08C02#20 := by decide
/-- CV9, where the two scan settings differ: Skip(9) and Skip(1). CV15: index 0 is not scanned, Skip(2). -/
theorem test_classify_settings :
    classify .continueScan frameCV9 = .skip 9#4 ∧ classify .stopSkip1 frameCV9 = .skip 1#4 ∧
    classify .continueScan frameCV15 = .skip 2#4 := by decide
/-- EV18: no event is consumed in EMIT; EV22: ACCEPT, STATUS 0x18000. -/
theorem test_accept :
    statusOf (step (offering (emitOf payloadA) 0x000#10)) = some 0x98403#20 ∧
    (nextOf (step (offering (emitOf payloadA) 0x000#10))).map State.source = some [0x000#10] ∧
    statusOf (step (driving (emitOf payloadA) (.ports false true true))) = some 0x18000#20 := by decide
/-- EV23, EV24 and EV25: no change. -/
theorem test_accept_ignored :
    statusOf (step (driving (fillAt 4#5) (.ports false true true))) = some 0x00100#20 ∧
    statusOf (step (driving (discardAt 2#4 2#4) (.ports false true true))) = some 0x11402#20 ∧
    statusOf (step (driving fatalAt (.ports false true true))) = some 0x001DC#20 := by decide
/-- EV26, EV28 (with ACCEPT offered) and EV29 (no CHECK happens). -/
theorem test_reset :
    statusOf (step (driving fatalAt (.ports true false true))) = some 0x00000#20 ∧
    statusOf (step (driving (emitOf payloadA) (.ports true true true))) = some 0x00000#20 ∧
    statusOf (step (driving (checkOn frameCV1) (.ports true false true))) = some 0x00000#20 := by decide
/-- EV32: the byte stays with the source, and is the next fill's first. -/
theorem test_reset_keeps_the_line :
    (nextOf (step (driving (offering (fillAt 3#5) 0x055#10) (.ports true false false)))).map State.source
      = some [0x055#10] := by decide
/-- DV11: buttons 0 to 3 and 12 to 15, axes 512, 1023, 0, 1. -/
theorem test_decode_dv11 :
    (nextOf (exec (.decode payloadDV11.toList) State.reset)).map State.decoded
      = some (some { pressed := 0xF00F#48, axis := #v[512#16, 1023#16, 0#16, 1#16] }) := by decide
/-- DV10 (low byte first), and DV14 to DV17. -/
theorem test_decode_dv10_and_lengths :
    decodePayload payloadDV10.toList = .ok { pressed := 0#48, axis := #v[256#16, 1#16, 255#16, 65280#16] } ∧
    decodePayload [] = .error (.contractViolation 0) ∧
    decodePayload (payloadA.toList.take 13) = .error (.contractViolation 13) ∧
    decodePayload (payloadA.toList ++ [0]) = .error (.contractViolation 15) ∧
    decodePayload (wireFrame payloadA) = .error (.contractViolation 16) := by decide
/-- DV15 as a use of the decoder on its own, in FILL and in FATAL: a fault that records 13 (R175). -/
theorem test_decode_wrong_length_faults : ∀ s ∈ [fillAt 7#5, fatalAt],
    faultOf (step (driving s (.decode (payloadA.toList.take 13)))) = some (.contractViolation 13) := by decide
/-- W7 and its derived rows. -/
theorem test_centered :
    centered 512#16 = 0 ∧ centered 0#16 = -512 ∧ centered 1023#16 = 511 ∧ centered 65535#16 = 65023 ∧
    centered 256#16 = -256 := by decide
/-- W3: buttons 0 to 3 and 12 to 15 encode to `0F F0`. -/
theorem test_encode_w3 :
    encodePayload { pressed := 0xF00F#48, axis := #v[512#16, 1023#16, 0#16, 1#16] } = payloadDV11 := by decide

/-- The ends of a run (R211). -/
theorem test_run_ends :
    (fillAt 3#5).endOfRun = some .waitingForSource ∧ (emitOf payloadA).endOfRun = some .waitingForConsumer ∧
    fatalAt.endOfRun = some .fatal ∧ (checkOn frameCV1).endOfRun = none ∧
    endOf (step (offering State.reset 0x300#10)) = some .refused := by decide
/-- P1's first lines: after RESET and a BYTE, one event consumed and STATUS 0x00040. -/
theorem test_stimulus :
    statusOf (runStim [.reset, .byte 0xFF#8] State.reset) = some 0x00040#20 := by decide

/-! ### Witnesses: the hypotheses of the statements can be met -/

/-- The reset state meets R33. -/
theorem inv_reset : State.reset.Inv :=
  ⟨by decide, by decide, fun h => absurd h (by decide), by decide, by decide, by decide, by decide⟩

/-- So does FILL with 15 bytes stored. -/
theorem inv_fill15 : (fillAt 15#5).Inv :=
  ⟨by decide, by decide, fun h => absurd h (by decide), by decide, by decide, by decide, by decide⟩

theorem inv_check : (checkOn frameCV1).Inv :=
  ⟨by decide, by decide, fun h => absurd h (by decide), by decide, by decide, by decide, by decide⟩

theorem inv_discard : (discardAt 15#4 15#4).Inv :=
  ⟨by decide, by decide, fun _ => ⟨15#4, by decide⟩, by decide, by decide, by decide, by decide⟩

theorem inv_emit : (emitOf payloadA).Inv :=
  ⟨by decide, by decide, fun h => absurd h (by decide), by decide, by decide, by decide, by decide⟩

theorem inv_fatal : fatalAt.Inv :=
  ⟨by decide, by decide, fun h => absurd h (by decide), by decide, by decide, by decide, by decide⟩

/-- Also with a reserved word on the line (notes/assumptions/4.md). -/
theorem witness_ResetWinsOverEveryOtherLabel :
    (driving (emitOf payloadA) (.ports true true false)).offers = [.ports true true false] ∧
    (driving (offering State.reset 0x301#10) (.ports true false false)).offers = [.ports true false false] ∧
    statusOf (step (driving (offering (emitOf payloadA) 0x301#10) (.ports true true false))) = some 0x00000#20 := by
  decide

theorem witness_FillStoresByteAtCnt : ∀ c ∈ [0#5, 15#5], (fillAt c).cnt.toNat ≤ 15 ∧ (fillAt c).phase = .fill := by
  decide

theorem witness_DiscardCountsDown : ∀ r ∈ [1#4, 2#4, 15#4],
    (discardAt 15#4 r).phase = .discard ∧ 1 ≤ (discardAt 15#4 r).rem.toNat := by decide

theorem witness_FillTimeoutRestartsFromEmpty : (fillAt 15#5).phase = .fill := rfl

theorem witness_DiscardTimeoutRestartsOrResumes :
    ((discardAt 15#4 1#4).phase = .discard ∧ (discardAt 15#4 1#4).config.discardTimeoutMode = .restart ∧
      (discardAt 15#4 1#4).skip = some 15#4) ∧
    ((discardResume 15#4 1#4).phase = .discard ∧
      (discardResume 15#4 1#4).config.discardTimeoutMode = .resume) := by decide

theorem witness_IoErrorTakesFatal : (fillAt 7#5).phase = .fill ∧ (discardAt 9#4 4#4).phase = .discard := ⟨rfl, rfl⟩

theorem witness_ReservedKindRefusesTheRun :
    (driving (offering (emitOf payloadA) 0x301#10) (.ports false true false)).offers = [.ports false true false] ∧
    (driving (offering (emitOf payloadA) 0x301#10) (.ports false true false)).source = (0b11#2 ++ 0x01#8) :: [] :=
  ⟨rfl, rfl⟩

theorem witness_NoEventConsumedUnlessReady : ∀ s ∈ [checkOn frameCV1, emitOf payloadA, fatalAt],
    (s.phase = .check ∨ s.phase = .emit ∨ s.phase = .fatal) ∧ (nextOf (step (offering s 0x000#10))).isSome := by decide

/-- A step that waits and a step that consumes an event. -/
theorem witness_EventsConsumedInLineOrder :
    (nextOf (step State.reset)).map State.consumed = some 0 ∧
    (nextOf (step (offering State.reset 0x000#10))).map State.consumed = some 1 := by decide

/-- A line of TIMEOUTs without end, in a fill of 15 bytes and in a discard. -/
theorem witness_TimeoutsNeverEscalate : ∀ s ∈ [endlessly (fillAt 15#5) [0x1FF#10], endlessly (discardAt 15#4 15#4) [0x100#10]],
    s.Inv ∧ (s.phase = .fill ∨ s.phase = .discard) ∧ (∀ w, w ∈ s.source ∨ w ∈ s.sourceLoop → evKind w = .timeout) ∧
    (∀ o, o ∈ s.offers ∨ o ∈ s.offersLoop → o.isBlockStep = true ∧ o.resets = false) ∧
    s.sourceLoop ≠ [] ∧ s.offers = [] ∧ s.offersLoop = [] := by
  have hI : (endlessly (fillAt 15#5) [0x1FF#10]).Inv ∧ (endlessly (discardAt 15#4 15#4) [0x100#10]).Inv :=
    ⟨⟨by decide, by decide, fun h => absurd h (by decide), by decide, by decide, by decide, by decide⟩,
     ⟨by decide, by decide, fun _ => ⟨15#4, by decide⟩, by decide, by decide, by decide, by decide⟩⟩
  intro s hs
  simp only [List.mem_cons, List.not_mem_nil, or_false] at hs
  rcases hs with rfl | rfl
  · exact ⟨hI.1, .inl rfl, by simp [endlessly, fillAt, State.reset]; decide, by simp [endlessly, fillAt, State.reset],
      by decide, rfl, rfl⟩
  · exact ⟨hI.2, .inr rfl, by simp [endlessly, discardAt, State.reset]; decide,
      by simp [endlessly, discardAt, State.reset], by decide, rfl, rfl⟩

/-- The words of the loop come once `source` is used up, and come again (notes/assumptions/2.md). -/
theorem test_line_without_end :
    (nextOf (step (endlessly State.reset [0x055#10]))).map (fun t => (t.consumed, t.line)) = some (1, [0x055#10]) ∧
    (nextOf (step (endlessly (offering State.reset 0x011#10) [0x055#10, 0x066#10]))).map State.line
      = some [0x055#10, 0x066#10] := by decide

theorem witness_CheckPresentsOrDiscards :
    (∀ f, (checkOn f).phase = .check ∧ ∀ i : Fin 16, (checkOn f).buf[i] = some f[i]) ∧
    classify .continueScan frameCV1 = .aligned ∧ classify .continueScan frameCV3 = .skip 15#4 :=
  ⟨fun f => ⟨rfl, fun i => by simp [checkOn, cellsOf]⟩, by decide, by decide⟩

/-- A frame decided by a full marker at 3, by the last byte, by a lone byte under STOP_SKIP1, and by no index. -/
theorem witness_SkipIsTheFirstDecidingIndex :
    (frameCV2[0] ≠ 0xFF#8 ∧ frameCV3[0] ≠ 0xFF#8 ∧ frameCV4[0] ≠ 0xFF#8 ∧ frameCV9[0] ≠ 0xFF#8) ∧
    (ScanDecides .continueScan frameCV4 3 ∧ ∀ j, j < 3 → ¬ ScanDecides .continueScan frameCV4 j) ∧
    (ScanDecides .continueScan frameCV3 15 ∧ ∀ j, j < 15 → ¬ ScanDecides .continueScan frameCV3 j) ∧
    (ScanDecides .stopSkip1 frameCV9 5 ∧ ∀ j, j < 5 → ¬ ScanDecides .stopSkip1 frameCV9 j) ∧
    (∀ i, ¬ ScanDecides .continueScan frameCV2 i) ∧
    (checkOn frameCV3).config.loneMarkerScan = .continueScan := by
  refine ⟨by decide, by unfold ScanDecides; decide, by unfold ScanDecides; decide, by unfold ScanDecides; decide, ?_, rfl⟩
  rintro i ⟨_, h, _⟩
  obtain ⟨hi, h⟩ := Vector.getElem?_eq_some_iff.1 h
  simp [frameCV2, markerByte] at h

theorem witness_EverySkipIsBetween1And15 :
    classify .continueScan frameCV2 = .skip 1#4 ∧ classify .stopSkip1 frameCV3 = .skip 15#4 := by decide

theorem witness_AcceptStartsTheNextAttempt : (emitOf payloadA).phase = .emit := rfl

theorem witness_AckOutsideEmitWritesNothing :
    (∀ s ∈ [State.reset, checkOn frameCV1, discardAt 3#4 1#4, fatalAt], s.phase ≠ .emit) ∧
    (driving (offering (checkOn frameCV1) 0x000#10) (.ports false true false)).phase = .check ∧
    (∀ w ∈ (offering (checkOn frameCV1) 0x000#10).source.head?, evKind w ≠ .reserved) := by decide

theorem witness_EmitHoldsItsOutputs :
    (driving (offering (emitOf payloadA) 0x000#10) (.ports false false false)).phase = .emit ∧
    (emitOf payloadA).outPayload = some payloadA ∧
    (∀ w ∈ (offering (emitOf payloadA) 0x000#10).source.head?, evKind w ≠ .reserved) := by decide

theorem witness_OutputsAreDecodedPayloadInEmitOnly :
    (emitOf payloadA).phase = .emit ∧ (emitOf payloadA).outPayload = some payloadA ∧ State.reset.phase ≠ .emit := by
  decide

theorem witness_DecodeReturnsItsValueAndWritesNoBlockState : payloadA.toList.length = 14 := by decide

theorem witness_WrongLengthIsContractViolation :
    ∀ n ∈ [0, 13, 15], (List.replicate n 0x00#8).length ≠ 14 := by decide

/-- A late event, an ACK and a use of the decoder in FATAL. -/
theorem witness_NoSecondCauseInFatal : fatalAt.phase = .fatal ∧
    ∀ i ∈ [Instr.srcIoerr 0x00#8, .outAcceptIgnored, .decode payloadA.toList],
      i ≠ .reset ∧ (nextOf (exec i fatalAt)).isSome := by decide

/-- For DecodeAndEncodePayloadAreInverse and BusesCarryTheFields. -/
theorem witness_decodePayload_ok : ∃ b, decodePayload payloadDV11.toList = .ok b :=
  ⟨{ pressed := 0xF00F#48, axis := #v[512#16, 1023#16, 0#16, 1#16] }, by decide⟩

/-- For EveryStepKeepsInv and OnlyWrongLengthDecodeFaultsUnderInv: each phase's state meets Inv (above) and steps. -/
theorem witness_EveryStepKeepsInv :
    ∀ s ∈ [State.reset, fillAt 15#5, checkOn frameCV1, discardAt 15#4 15#4, emitOf payloadA, fatalAt],
      (nextOf (step s)).isSome := by decide

/-- The one fault from a state that meets Inv. -/
theorem witness_OnlyWrongLengthDecodeFaultsUnderInv :
    (driving State.reset (.decode [])).Inv ∧
    (driving State.reset (.decode [])).nextOffer = .decode [] ∧
    faultOf (step (driving State.reset (.decode []))) = some (.contractViolation 0) :=
  ⟨⟨by decide, by decide, by decide, by decide, by decide, by decide, by decide⟩, by decide, by decide⟩

theorem witness_OnlyReservedWordsAreRefused :
    refusalOf (step (offering State.reset 0x301#10)) = some .reservedEventKind ∧
    (offering State.reset 0x301#10).eventOffered = some 0x301#10 := by decide

theorem witness_OnlyResetLeavesFatal :
    fatalAt.phase = .fatal ∧ fatalAt.nextOffer.resets = false ∧ (nextOf (step fatalAt)).isSome ∧
    (driving fatalAt (.ports true false false)).nextOffer.resets = true := by decide

/-- Each way into FATAL. -/
theorem witness_FatalIsEnteredByIoErrorOnly :
    ∀ s ∈ [offering (fillAt 7#5) 0x200#10, offering (discardAt 9#4 4#4) 0x2FF#10],
      s.phase ≠ .fatal ∧ (nextOf (step s)).map (fun t => (t.phase, t.cause)) = some (.fatal, .ioFailure) := by decide

/-- A state already in FATAL with the other cause. -/
theorem witness_FatalIsEnteredByIoErrorOnly_violation :
    (nextOf (step { fatalAt with cause := .contractViolation })).map State.cause = some .contractViolation := by decide

/-- The seven transfers of R73. -/
theorem witness_PhaseTransitions :
    [offering (fillAt 15#5) 0x000#10, offering (fillAt 0#5) 0x200#10, checkOn frameCV1, checkOn frameCV3,
      offering (discardAt 3#4 1#4) 0x000#10, offering (discardAt 3#4 1#4) 0x200#10,
      driving (emitOf payloadA) (.ports false true false)].map
        (fun s => (s.nextOffer.isBlockStep, s.nextOffer.resets, s.phase, (nextOf (step s)).map State.phase))
      = [(true, false, .fill, some .check), (true, false, .fill, some .fatal), (true, false, .check, some .emit),
         (true, false, .check, some .discard), (true, false, .discard, some .fill),
         (true, false, .discard, some .fatal), (true, false, .emit, some .fill)] := by decide

theorem witness_BufWrittenOnlyByFillBytes :
    (nextOf (step (offering (fillAt 15#5) 0x02A#10))).map (fun t => t.buf[15]) = some (some 0x2A#8) ∧
    (offering (fillAt 15#5) 0x02A#10).nextOffer.resets = false := by decide

theorem witness_EmissionsComeFromAlignedBuffers :
    (nextOf (step (checkOn frameCV1))).map State.emitted = some [payloadA] := by decide

theorem witness_ParametersNeverChange :
    (nextOf (step (checkOnStop frameCV9))).map State.config = some (checkOnStop frameCV9).config := by decide

/-- Two states that differ in cells 3 to 15 of a fill of three bytes. -/
theorem witness_StaleBytesNeverMatter :
    SameUpToStaleBytes (fillAt 3#5) { fillAt 3#5 with buf := cellsOf frameCV4 } ∧
    fillAt 3#5 ≠ { fillAt 3#5 with buf := cellsOf frameCV4 } :=
  ⟨⟨rfl, by decide, by decide⟩, by decide⟩

/-- A wait, an event and another label. -/
theorem witness_StepRunsTheDecodedOperation :
    State.reset.label = none ∧
    ((offering State.reset 0x02A#10).label = some (.ev 0x02A#10) ∧
      decodeOp .fill (.ev 0x02A#10) = .ok (.srcByteFill 0x2A#8)) ∧
    ((checkOn frameCV1).label = some .int ∧ decodeOp .check .int = .ok .check) := by decide

/-- Also a word held back: FILL takes the ACK, or waits. -/
theorem witness_OneLabelPerStep : evKind 0x300#10 = .reserved ∧ evKind 0x000#10 ≠ .reserved ∧
    arbitrate .fill (.ports false true true) [0x000#10] = some (.ack 1#1) ∧
    arbitrate .fill (.ports false false true) [0x300#10] = none := by decide

theorem witness_TableWordRoundTrip : (Instr.decode payloadA.toList).wellFormed = true ∧ Instr.check.wellFormed = true := by
  decide

theorem witness_PlacedWordRunsNext : decodeTableWord 16 0x02A = some (.srcByteFill 0x2A#8) ∧
    refusalOf (step (State.reset.withFetchWord 16 0x301)) = some .reservedEventKind ∧
    statusOf (step (State.reset.withFetchWord 16 0x02A)) = some 0x00040#20 := by decide

/-- An offered event of each kind without RESET, and a state at each end. -/
theorem witness_EndsOfARun :
    (offering State.reset 0x300#10).nextOffer.resets = false ∧
    (offering State.reset 0x300#10).eventOffered = some 0x300#10 ∧
    (offering State.reset 0x000#10).eventOffered = some 0x000#10 ∧ State.reset.eventOffered = none ∧
    (emitOf payloadA).ackOffered = false := by decide

theorem witness_OperationsOutsideTheirPhase :
    (discardAt 3#4 1#4).phase = .discard ∧ State.reset.phase = .fill ∧ (emitOf payloadA).phase = .emit ∧
    (checkOn frameCV1).phase = .check ∧ fatalAt.phase = .fatal := by decide

theorem witness_OutsideTheirRequirementsOperationsFault :
    ((fillAt 16#5).phase = .fill ∧ 16 ≤ (fillAt 16#5).cnt.toNat) ∧
    ((discardAt 3#4 0#4).phase = .discard ∧ (discardAt 3#4 0#4).rem = 0#4) ∧
    (({ discardAt 3#4 1#4 with skip := none } : State).skip = none) ∧
    (({ State.reset with phase := .check } : State).buf[15] = none) := by decide

/-- An aligned attempt with a BYTE behind it, and failed attempts with Skip(1) and Skip(15). -/
theorem witness_BytesConsumedPerAttempt :
    (∀ f : RawFrame, ∀ rest, (onLine (byteWords f.toList ++ rest)).FreshFill
      (byteWords f.toList ++ rest)) ∧
    (∀ w ∈ (byteWords [0x00#8]).head?, evKind w ≠ .reserved) ∧
    classify State.reset.config.loneMarkerScan frameCV1 = .aligned ∧
    (classify State.reset.config.loneMarkerScan frameCV2 = .skip 1#4 ∧ [0x00#8].length = (1#4).toNat) ∧
    (classify State.reset.config.loneMarkerScan frameCV3 = .skip 15#4 ∧
      (List.replicate 15 0x00#8).length = (15#4).toNat) :=
  ⟨fun _ _ => ⟨rfl, rfl, rfl, rfl, rfl⟩, by decide, by decide, by decide, by decide⟩

/-- The payloads of the streams below hold no 0xFF. -/
theorem markerFree_AZA : MarkerFree [payloadA, payloadZero, payloadA] := by
  have hA : ∀ j : Fin 14, payloadA[j] ≠ markerByte := by decide
  have hZ : ∀ j : Fin 14, payloadZero[j] ≠ markerByte := by decide
  intro p hp
  simp only [List.mem_cons, List.not_mem_nil, or_false] at hp
  rcases hp with rfl | rfl | rfl
  · exact hA
  · exact hZ
  · exact hA

theorem witness_PeriodicStreamAligns : MarkerFree [payloadA, payloadZero, payloadA] ∧ ∀ d ∈ [0, 1, 14, 15], d ≤ 15 ∧
    (onLine (byteWords ((backToBack [payloadA, payloadZero, payloadA]).drop ((16 - d) % 16)) ++ [])).FreshFill
      (byteWords ((backToBack [payloadA, payloadZero, payloadA]).drop ((16 - d) % 16)) ++ []) :=
  ⟨markerFree_AZA, fun d hd => ⟨by revert d; decide, rfl, rfl, rfl, rfl, rfl⟩⟩

/-- Junk lengths of every residue class the statement names, at its ends. -/
theorem witness_ConvergenceFromAJunkPrefix : MarkerFree [payloadA, payloadZero, payloadA] ∧
    ∀ k ∈ [0, 1, 15, 16, 17, 33], (∀ b ∈ List.replicate k 0x00#8, b ≠ 0xFF#8) ∧
      (∀ w ∈ ([] : List EvWord).head?, evKind w ≠ .reserved) ∧
      (onLine (byteWords (List.replicate k 0x00#8 ++ backToBack [payloadA, payloadZero, payloadA]) ++ [])).FreshFill
        (byteWords (List.replicate k 0x00#8 ++ backToBack [payloadA, payloadZero, payloadA]) ++ []) :=
  ⟨markerFree_AZA, fun k _ => ⟨fun b hb => by rw [List.eq_of_mem_replicate hb]; decide, by decide,
    rfl, rfl, rfl, rfl, rfl⟩⟩

theorem witness_FinalMarkerByteShiftsForEver : payloadFA2[13] = 0xFF#8 ∧
    (onLine (byteWords (0xFF#8 :: wireFrame payloadFA2) ++ [])).FreshFill
      (byteWords (0xFF#8 :: wireFrame payloadFA2) ++ []) :=
  ⟨by decide, rfl, rfl, rfl, rfl, rfl⟩

/-- Three frames that end in 0xFF, and a consumer that accepts in every eighteenth step. -/
theorem witness_FinalMarkerByteShiftsForEver_accepting :
    ∃ s : State, (∀ p ∈ List.replicate 3 payloadFA2, p[13] = 0xFF#8) ∧ s.phase = .fill ∧ s.cnt = 0#5 ∧
      s.source = byteWords (0xFF#8 :: backToBack (List.replicate 3 payloadFA2)) ++ [] ∧ s.offers = [] ∧
      s.offersLoop = List.replicate 17 (Offer.ports false false false) ++ [Offer.ports false true false] :=
  ⟨{ onLine (byteWords (0xFF#8 :: backToBack (List.replicate 3 payloadFA2)) ++ []) with
      offersLoop := List.replicate 17 (Offer.ports false false false) ++ [Offer.ports false true false] },
   fun p hp => by rw [List.eq_of_mem_replicate hp]; decide, rfl, rfl, rfl, rfl, rfl⟩

/-- A line of zeros without end, with an ACK in every step, and a TIMEOUT in every step from an idle line. -/
theorem witness_MarkerlessStreamNeverEmits :
    State.reset.Inv ∧ State.reset.phase = .fill ∧ State.reset.cnt = 0#5 ∧ Markerless 0x000#10 ∧ Markerless 0x1FF#10 ∧
    (∀ w, w ∈ (endlessly State.reset [0x000#10]).source ∨ w ∈ (endlessly State.reset [0x000#10]).sourceLoop →
      Markerless w) ∧
    (∀ n : Nat, ((fun _ => { offer := .ports false true false, words := [0x1FF#10] } : Nat → Feed) n).offer.isBlockStep
      = true) :=
  ⟨inv_reset, rfl, rfl, by unfold Markerless; decide, by unfold Markerless; decide, by
    intro w hw
    simp only [endlessly, State.reset, List.not_mem_nil, List.mem_singleton, false_or] at hw
    subst hw
    unfold Markerless
    decide, fun _ => rfl⟩

/-- A consumer that never accepts, while the line brings a byte in every step. -/
theorem witness_UnacceptedFrameWaitsForEver :
    (emitOf payloadA).phase = .emit ∧ (∀ w, w ∈ (emitOf payloadA).source ∨ w ∈ (emitOf payloadA).sourceLoop →
      evKind w ≠ .reserved) ∧
    (∀ n : Nat, ∃ stall, ((fun _ => { offer := .ports false false false, words := [0x0FF#10] } : Nat → Feed) n).offer
      = .ports false false stall) ∧ evKind 0x0FF#10 ≠ .reserved :=
  ⟨rfl, by simp [emitOf, State.reset], fun _ => ⟨false, rfl⟩, by decide⟩

end Sys2Proof.Tests
end

section
/-! PROOFS. What the derived signals and the STATUS word say of the state (10_state.md R29, R32), and the statements
about them and about the state after reset (R35). -/

namespace Sys2Proof.Machine

/-! ### The signals (R29) -/

@[simp] theorem State.srcReady_iff (s : State) : s.srcReady = true ↔ s.phase = .fill ∨ s.phase = .discard := by
  rw [State.srcReady, Bool.or_eq_true, beq_iff_eq, beq_iff_eq]

@[simp] theorem State.outValid_iff (s : State) : s.outValid = true ↔ s.phase = .emit := by
  rw [State.outValid, beq_iff_eq]

@[simp] theorem State.isFatal_iff (s : State) : s.isFatal = true ↔ s.phase = .fatal := by
  rw [State.isFatal, beq_iff_eq]

/-- Settles O28: each signal is a test of the phase register. -/
theorem signalsFollowThePhase : Obligations.SignalsFollowThePhase := fun s =>
  ⟨s.srcReady_iff, s.outValid_iff, s.isFatal_iff⟩

/-! ### The fields of STATUS (R32)

A field is reached by dropping the fields appended below it; it is then the lowest of what is left. -/

/-- The 20 bits of STATUS as the fields appended, the width written as the sum of theirs: the library's lemmas on
`++` match this form and not the numeral 20. -/
theorem State.extractLsb'_status (s : State) (start len : Nat) :
    s.status.extractLsb' start len =
      (BitVec.ofBool s.outValid ++ s.skip.getD 0#4 ++ s.rem ++ s.cnt ++ s.cause.code
        ++ BitVec.ofBool s.isFatal ++ s.phase.code).extractLsb' start len := rfl

@[simp] theorem State.status_phase (s : State) : s.status.extractLsb' 0 3 = s.phase.code :=
  BitVec.extractLsb'_append_eq_right

@[simp] theorem State.status_fatal (s : State) : s.status.extractLsb' 3 1 = BitVec.ofBool s.isFatal := by
  simp (disch := decide) only [State.extractLsb'_status, BitVec.extractLsb'_append_eq_of_le, Nat.reduceSub,
    BitVec.extractLsb'_append_eq_right]

@[simp] theorem State.status_cause (s : State) : s.status.extractLsb' 4 2 = s.cause.code := by
  simp (disch := decide) only [State.extractLsb'_status, BitVec.extractLsb'_append_eq_of_le, Nat.reduceSub,
    BitVec.extractLsb'_append_eq_right]

@[simp] theorem State.status_cnt (s : State) : s.status.extractLsb' 6 5 = s.cnt := by
  simp (disch := decide) only [State.extractLsb'_status, BitVec.extractLsb'_append_eq_of_le, Nat.reduceSub,
    BitVec.extractLsb'_append_eq_right]

@[simp] theorem State.status_rem (s : State) : s.status.extractLsb' 11 4 = s.rem := by
  simp (disch := decide) only [State.extractLsb'_status, BitVec.extractLsb'_append_eq_of_le, Nat.reduceSub,
    BitVec.extractLsb'_append_eq_right]

@[simp] theorem State.status_skip (s : State) : s.status.extractLsb' 15 4 = s.skip.getD 0#4 := by
  simp (disch := decide) only [State.extractLsb'_status, BitVec.extractLsb'_append_eq_of_le, Nat.reduceSub,
    BitVec.extractLsb'_append_eq_right]

@[simp] theorem State.status_outValid (s : State) : s.status.extractLsb' 19 1 = BitVec.ofBool s.outValid := by
  simp (disch := decide) only [State.extractLsb'_status, BitVec.extractLsb'_append_eq_of_le, Nat.reduceSub,
    BitVec.extractLsb'_eq_self]

theorem State.status_getLsbD_fatal (s : State) : s.status.getLsbD 3 = s.isFatal := by
  rw [BitVec.getLsbD_eq_extractLsb', s.status_fatal]
  cases s.isFatal <;> rfl

theorem State.status_getLsbD_outValid (s : State) : s.status.getLsbD 19 = s.outValid := by
  rw [BitVec.getLsbD_eq_extractLsb', s.status_outValid]
  cases s.outValid <;> rfl

/-- Settles O29: field by field; the tables of codes are those of `Phase.code` and `Cause.code`. -/
theorem statusWordLayout : Obligations.StatusWordLayout := fun s =>
  ⟨s.status_phase, s.status_getLsbD_fatal ▸ s.isFatal_iff, s.status_cause, s.status_cnt, s.status_rem,
    s.status_skip, s.status_getLsbD_outValid ▸ s.outValid_iff⟩

/-! ### The state after reset (R35) -/

/-- Settles O1: the stored elements are `State.reset`'s own, SKIP is that of STATUS with skip = none, and the three
signals are those of FILL. -/
theorem resetStateHasR35Values : Obligations.ResetStateHasR35Values :=
  ⟨rfl, fun _ => Vector.getElem_replicate .., rfl, rfl, State.reset.status_skip, rfl, rfl, rfl, rfl, rfl, rfl⟩

end Sys2Proof.Machine
end

section
/-! PROOFS. The words of the stimulus lines and the lines of the pseudo-operations (30_encoding.md R81, R82). -/

namespace Sys2Proof

/-- The word of a BYTE is its DATA zero-extended: `0x0NN` (R81), KIND being 0b00. -/
theorem evWord_byte (b : Byte) : evWord .byte b = b.setWidth 10 :=
  (BitVec.setWidth_eq_append (by decide)).symm

end Sys2Proof

namespace Sys2Proof.Machine

/-- `BYTE 0xNN` (R81). -/
theorem Stim.selector_byte (b : Byte) : (Stim.byte b).selector = .ev (b.setWidth 10) :=
  congrArg Selector.ev (evWord_byte b)

/-- `FRAME` (R82): the marker twice, then the payload bytes in order. -/
theorem stimFrame_eq_markers_payload (p : Payload) :
    stimFrame p = .byte 0xFF#8 :: .byte 0xFF#8 :: p.toList.map .byte := rfl

/-- `JUNK n` (R82). -/
theorem stimJunk_eq_replicate (n : Nat) : stimJunk n = List.replicate n (.byte 0x00#8) :=
  List.map_replicate

/-- `ZFRAME` (R82): the FRAME whose 14 payload bytes are zero. -/
theorem stimZFrame_eq_markers_zeros :
    stimZFrame = .byte 0xFF#8 :: .byte 0xFF#8 :: List.replicate 14 (.byte 0x00#8) := by
  rw [stimZFrame, stimFrame_eq_markers_payload, Vector.toList_replicate, List.map_replicate]

/-- Settles O47: the BYTE word is DATA zero-extended, the other four words are those of `Stim.selector`, and each
pseudo-operation is its list of BYTE lines. -/
theorem stimulusWords : Obligations.StimulusWords :=
  ⟨Stim.selector_byte, rfl, rfl, rfl, rfl, fun _ => rfl, stimFrame_eq_markers_payload, stimJunk_eq_replicate,
    stimZFrame_eq_markers_zeros⟩

end Sys2Proof.Machine
end

section
/-! PROOFS. The source events (40_source_events.md): what the EV column of R73 answers, what each event does in the
phase that takes it (R100 to R104), the reserved word (R106), and what a step does to the line (R59, R62, R105). -/

namespace Sys2Proof

open Sys2Proof.Machine (Phase)

/-! ### The EV column of R73 -/

theorem decodeOp_ev_ioerr {p : Phase} (hp : p = .fill ∨ p = .discard) (d : Byte) :
    decodeOp p (.ev (evWord .ioerr d)) = .ok (.srcIoerr d) := by
  rcases hp with rfl | rfl <;> simp [decodeOp, decodeEv]

/-- R106: no phase tells rows of KIND 0b11 apart. -/
theorem decodeOp_ev_reserved (p : Phase) (w : EvWord) (hk : evKind w = .reserved) :
    decodeOp p (.ev w) = .ok (.srcReserved (evData w)) := by
  simp [decodeOp, decodeEv, hk]

/-- A word that is not reserved has a row in FILL and DISCARD only. -/
theorem decodeOp_ev_ok {p : Phase} {w : EvWord} {i : Instr} (h : decodeOp p (.ev w) = .ok i) :
    i = .srcReserved (evData w) ∨ p = .fill ∨ p = .discard := by
  by_cases hk : evKind w = .reserved
  · rw [decodeOp_ev_reserved p w hk, Except.ok.injEq] at h
    exact .inl h.symm
  · cases p
    case fill => exact .inr (.inl rfl)
    case discard => exact .inr (.inr rfl)
    all_goals simp [decodeOp, decodeEv] at h

end Sys2Proof

namespace Sys2Proof.Machine

/-! ### Each event in the phase that takes it (R100, R102 to R104) -/

/-- `buf[i] <- v` for an index that has a cell (R13). -/
theorem memWrite_eq_set (buf : FrameBuffer) {i : Nat} (v : Byte) (hi : i < 16) :
    memWrite buf i v = buf.set i (some v) hi :=
  Vector.ext fun j hj => (memWrite_getElem buf i v ⟨j, hj⟩).trans (Vector.getElem_set hi hj).symm

theorem exec_srcByteFill {s : State} (b : Byte) (hp : s.phase = .fill) (hc : s.cnt.toNat ≤ 15) :
    exec (.srcByteFill b) s = .next (s.storeByte b) := by
  have hle : s.cnt ≤ 15#5 := BitVec.le_def.2 hc
  simp [exec, execSrcByteFill, hp, hle]

theorem exec_srcTimeoutFill {s : State} (d : Byte) (hp : s.phase = .fill) :
    exec (.srcTimeoutFill d) s = .next s.beginFill := by
  simp [exec, execSrcTimeoutFill, hp]

theorem exec_srcTimeoutDiscard_restart {s : State} {n : BitVec 4} (d : Byte) (hp : s.phase = .discard)
    (hm : s.config.discardTimeoutMode = .restart) (hn : s.skip = some n) :
    exec (.srcTimeoutDiscard d) s = .next (s.setRem n) := by
  simp [exec, execSrcTimeoutDiscard, hp, hm, readValue_ok.2 hn]

theorem exec_srcTimeoutDiscard_resume {s : State} (d : Byte) (hp : s.phase = .discard)
    (hm : s.config.discardTimeoutMode = .resume) : exec (.srcTimeoutDiscard d) s = .next s := by
  simp [exec, execSrcTimeoutDiscard, hp, hm]

theorem exec_srcIoerr {s : State} (d : Byte) (hp : s.phase = .fill ∨ s.phase = .discard) :
    exec (.srcIoerr d) s = .next (s.raiseFatal .ioFailure) := by
  rcases hp with hp | hp <;> simp [exec, execSrcIoerr, hp]

theorem exec_srcReserved (d : Byte) (s : State) : exec (.srcReserved d) s = .refused .reservedEventKind := rfl

/-- Settles O4: the decoder's row in FILL, and `storeByte`, whose write is inside the buffer. -/
theorem fillStoresByteAtCnt : Obligations.FillStoresByteAtCnt := fun s b hc hp => by
  refine ⟨hp ▸ Laws.HomePhase.srcByteFill b, ?_⟩
  rw [exec_srcByteFill b hp hc, State.storeByte, memWrite_eq_set]

/-- Settles O6: the decoder's row in FILL, and `beginFill`. -/
theorem fillTimeoutRestartsFromEmpty : Obligations.FillTimeoutRestartsFromEmpty := fun _ d hp =>
  ⟨hp ▸ Laws.HomePhase.srcTimeoutFill d, exec_srcTimeoutFill d hp⟩

/-- Settles O7: the decoder's row in DISCARD, and the meaning under each mode. -/
theorem discardTimeoutRestartsOrResumes : Obligations.DiscardTimeoutRestartsOrResumes := fun _ d hp =>
  ⟨hp ▸ Laws.HomePhase.srcTimeoutDiscard d, fun _ => exec_srcTimeoutDiscard_restart d hp,
    exec_srcTimeoutDiscard_resume d hp⟩

/-- Settles O8: the decoder's row in either phase, and the one trap entry. -/
theorem ioErrorTakesFatal : Obligations.IoErrorTakesFatal := fun s d hp =>
  ⟨decodeOp_ev_ioerr hp d, s.raiseFatal .ioFailure, exec_srcIoerr d hp, rfl, (State.isFatal_iff _).2 rfl⟩

/-! ### The reserved word (R106) -/

/-- A reserved word that is offered is the label taken, in every phase, unless RESET is offered with it. -/
theorem State.label_of_reserved {s : State} {w : EvWord} (hr : s.nextOffer.resets = false)
    (hw : s.eventOffered = some w) (hk : evKind w = .reserved) : s.label = some (.ev w) := by
  unfold State.eventOffered at hw
  unfold State.label
  cases ho : s.nextOffer with
  | decode q => simp [ho] at hw
  | ports rst ack stall =>
    obtain rfl : rst = false := by simpa [ho, Offer.resets] using hr
    have hev : offeredEvent stall s.line = some w := by simpa [ho] using hw
    simp [arbitrate_ports, hev, hk]

/-- The step that offers a reserved word without RESET is refused. -/
theorem step_reserved {s : State} {w : EvWord} (hr : s.nextOffer.resets = false)
    (hw : s.eventOffered = some w) (hk : evKind w = .reserved) : step s = .refused .reservedEventKind := by
  simp [step, takeStep, State.label_of_reserved hr hw hk, decodeOp_ev_reserved _ w hk, exec_srcReserved]

/-- Settles O9: the first step of the run offers the word, so it is refused, and a run ends with a refusal. -/
theorem reservedKindRefusesTheRun : Obligations.ReservedKindRefusesTheRun := fun s d => by
  have hk : evKind (0b11#2 ++ d) = .reserved := evKind_evWord .reserved d
  have hd : evData (0b11#2 ++ d) = d := evData_evWord .reserved d
  refine ⟨?_, exec_srcReserved d s, fun ack offers line k ho hs => ?_⟩
  · rw [decodeOp_ev_reserved _ _ hk, hd]
  · have hoffer : s.nextOffer = .ports false ack false := by simp [State.nextOffer, State.agenda_of_offers ho]
    have hword : s.eventOffered = some (0b11#2 ++ d) := by
      simp [State.eventOffered, hoffer, State.line_of_source hs, offeredEvent]
    exact run_succ_refused (step_reserved (by simp [hoffer, Offer.resets]) hword hk)

/-! ### The line (R59, R62, R105) -/

/-- No operation touches the line: a source event leaves it in `consume`, before its operation runs. -/
theorem exec_next_line {i : Instr} {s t : State} (h : exec i s = .next t) :
    t.source = s.source ∧ t.consumed = s.consumed := by
  cases i with
  | srcByteFill b =>
    obtain ⟨-, -, rfl⟩ | ⟨-, -, rfl⟩ := execSrcByteFill_next h <;> exact ⟨rfl, rfl⟩
  | srcByteDiscard b =>
    obtain ⟨-, -, rfl⟩ | ⟨-, -, -, rfl⟩ | ⟨-, -, rfl⟩ := execSrcByteDiscard_next (b := b) h <;> exact ⟨rfl, rfl⟩
  | srcTimeoutFill d =>
    obtain ⟨-, rfl⟩ | ⟨-, -, rfl⟩ := execSrcTimeoutFill_next (d := d) h <;> exact ⟨rfl, rfl⟩
  | srcTimeoutDiscard d =>
    obtain ⟨-, -, n, -, rfl⟩ | ⟨-, -, rfl⟩ | ⟨-, -, rfl⟩ := execSrcTimeoutDiscard_next (d := d) h <;> exact ⟨rfl, rfl⟩
  | srcIoerr d =>
    obtain ⟨-, rfl⟩ | ⟨-, -, rfl⟩ := execSrcIoerr_next (d := d) h <;> exact ⟨rfl, rfl⟩
  | srcReserved d => cases h
  | check =>
    obtain ⟨-, f, -, ⟨-, rfl⟩ | ⟨n, -, rfl⟩⟩ | ⟨-, rfl⟩ := execCheck_next h <;> exact ⟨rfl, rfl⟩
  | outAccept =>
    obtain ⟨-, rfl⟩ := execOutAccept_next h
    exact ⟨rfl, rfl⟩
  | outAcceptIgnored =>
    obtain ⟨-, rfl⟩ := execOutAcceptIgnored_next h
    exact ⟨rfl, rfl⟩
  | reset =>
    cases h
    exact ⟨rfl, rfl⟩
  | decode q =>
    obtain ⟨-, rfl⟩ := execDecode_next h
    exact ⟨rfl, rfl⟩

/-- Only a ready block completes an event's operation: elsewhere the one row is SRC_RESERVED, which is refused. -/
theorem srcReady_of_exec_event_next {s u t : State} {w : EvWord} {i : Instr}
    (hi : decodeOp s.phase (.ev w) = .ok i) (h : exec i u = .next t) : s.srcReady = true := by
  obtain rfl | hp := decodeOp_ev_ok hi
  · cases h
  · exact s.srcReady_iff.2 hp

/-- What a step can do to the line: nothing, or, where src_ready = 1, take the word at its head. -/
theorem step_next_line {s t : State} (h : step s = .next t) :
    (t.source = s.source ∧ t.consumed = s.consumed) ∨
    ∃ w, s.line = w :: t.source ∧ t.consumed = s.consumed + 1 ∧ s.srcReady = true := by
  obtain ⟨-, hs⟩ | ⟨sel, i, hl, hi, hs⟩ := step_cases s
  · cases hs.symm.trans h
    exact .inl ⟨rfl, rfl⟩
  · have hexec : exec i (s.advance sel) = .next t := hs.symm.trans h
    obtain ⟨hsrc, hcons⟩ := exec_next_line hexec
    cases sel with
    | ev w =>
      obtain ⟨l, hline⟩ := List.head?_eq_some_iff.1 (arbitrate_ev hl)
      have htail : t.source = l := by simpa [State.advance, hline] using hsrc
      exact .inr ⟨w, htail ▸ hline, hcons, srcReady_of_exec_event_next hi hexec⟩
    | ack r => exact .inl ⟨hsrc, hcons⟩
    | rst r => exact .inl ⟨hsrc, hcons⟩
    | int => exact .inl ⟨hsrc, hcons⟩
    | dec q => exact .inl ⟨hsrc, hcons⟩

theorem State.srcReady_eq_false_iff (s : State) :
    s.srcReady = false ↔ s.phase = .check ∨ s.phase = .emit ∨ s.phase = .fatal := by
  rw [State.srcReady]
  cases s.phase <;> decide

/-- Settles O10: a step takes a word off the line only where src_ready = 1. -/
theorem noEventConsumedUnlessReady : Obligations.NoEventConsumedUnlessReady := fun s t hp => by
  have hready : s.srcReady = false := s.srcReady_eq_false_iff.2 hp
  refine ⟨hready, fun h => ?_⟩
  obtain hkeep | ⟨w, -, -, hr⟩ := step_next_line h
  · exact hkeep
  · simp [hready] at hr

end Sys2Proof.Machine
end

section
/-! PROOFS. CHECK's verdict (41_frame_check.md): the alignment test. -/

namespace Sys2Proof.Machine

/-! ### The alignment test (R121) -/

theorem isAligned_iff (f : RawFrame) : isAligned f = true ↔ f[0] = 0xFF#8 ∧ f[1] = 0xFF#8 := by
  simp [isAligned, markerByte]

/-- The test comes before the scan, and the scan never answers `aligned`. -/
theorem classify_eq_aligned_iff (mode : LoneMarkerScan) (f : RawFrame) :
    classify mode f = .aligned ↔ isAligned f = true := by
  rw [classify]
  cases isAligned f <;> simp

/-- Settles O14: the verdict is the alignment test's, and the payload is read byte by byte. -/
theorem alignedIffFirstTwoBytesAreMarkers : Obligations.AlignedIffFirstTwoBytesAreMarkers := fun mode f =>
  ⟨(classify_eq_aligned_iff mode f).trans (isAligned_iff f), payloadOf_getElem f⟩

end Sys2Proof.Machine
end

section
/-! PROOFS. The consumer handshake and the payload decoder (42_output_decode.md): what an ACK does in each phase (R141,
R142), what EMIT holds while it waits (R140), the decoder's bits and axes (R144, R146) and the centering (R152). -/

namespace Sys2Proof.Machine

/-! ### The decoder field by field (R144, R146) -/

theorem byteAt_toList (q : Payload) {j : Nat} (hj : j < 14) : byteAt q.toList j = q[j] := by
  simp [byteAt, hj]

/-- R144: no button bit is shared or lost in the packing. -/
theorem buttonState_pressed_getLsbD (q : List Byte) {i : Nat} (hi : i < 48) :
    (buttonState q).pressed.getLsbD i = buttonBit q i := by
  rw [buttonState, packButtons_getLsbD _ _ _ hi, nButtons, decide_eq_true hi, Bool.true_and]

theorem buttonState_axis_getElem (q : List Byte) (k : Fin 4) : (buttonState q).axis[k] = axisSample q k := by
  fin_cases k <;> rfl

/-- R146: two bytes fill the 16 bits of an axis, so the sum never wraps. -/
theorem axisSample_toNat (q : List Byte) (k : Nat) :
    (axisSample q k).toNat = (byteAt q (6 + 2 * k)).toNat + 256 * (byteAt q (7 + 2 * k)).toNat := by
  have hlow := (byteAt q (6 + 2 * k)).isLt
  have hhigh := (byteAt q (7 + 2 * k)).isLt
  simp only [axisSample, BitVec.toNat_add, BitVec.toNat_mul, BitVec.toNat_setWidth, BitVec.toNat_ofNat]
  omega

/-- Settles O21: a payload decodes to its ButtonState, whose fields are read from the payload's bytes. -/
theorem decoderBitsAndAxes : Obligations.DecoderBitsAndAxes := fun q => by
  refine ⟨buttonState q.toList, decodePayload_payload q, fun i => ?_, fun k => ?_⟩
  · rw [buttonState_pressed_getLsbD _ i.isLt, buttonBit, byteAt_toList]
  · rw [buttonState_axis_getElem, axisSample_toNat, byteAt_toList, byteAt_toList]

/-! ### The label and the step where no reserved word is offered -/

/-- A word that the Byte Source holds back is not offered; any other is the head of the line. -/
theorem offeredEvent_unreserved {stall : Bool} {line : List EvWord}
    (hw : stall = true ∨ ∀ w ∈ line.head?, evKind w ≠ .reserved) :
    ∀ w ∈ offeredEvent stall line, evKind w ≠ .reserved := by
  cases stall with
  | true => simp [offeredEvent]
  | false => simpa [offeredEvent] using hw

/-- Without RESET and without a reserved word, the phase alone selects among what is offered (R73). -/
theorem State.label_eq_selectByPhase {s : State} {ack stall : Bool} {rest : List Offer}
    (ho : s.offers = .ports false ack stall :: rest)
    (hw : stall = true ∨ ∀ w ∈ s.line.head?, evKind w ≠ .reserved) :
    s.label = selectByPhase s.phase ack (offeredEvent stall s.line) := by
  have hoffer : s.nextOffer = .ports false ack stall := by simp [State.nextOffer, State.agenda_of_offers ho]
  rw [State.label, hoffer, arbitrate_ports]
  cases hev : offeredEvent stall s.line with
  | none => simp
  | some w => simp [offeredEvent_unreserved hw w hev]

theorem State.wait_of_offers {s : State} {o : Offer} {rest : List Offer} (ho : s.offers = o :: rest) :
    s.wait = { s with offers := rest } := by
  rw [State.wait, State.agenda_of_offers ho, List.tail_cons]

/-- A step that takes no label waits (R186). -/
theorem step_of_label_none {s : State} (hl : s.label = none) : step s = .next s.wait := by
  rw [step, takeStep, hl]

/-- A step runs the operation that its label decodes to (R73). -/
theorem step_of_label_some {s : State} {sel : Selector} {i : Instr} (hl : s.label = some sel)
    (hi : decodeOp s.phase sel = .ok i) : step s = exec i (s.advance sel) := by
  simp [step, takeStep, hl, hi]

/-! ### ACK (R141, R142) -/

theorem decodeOp_ack_of_ne_emit {p : Phase} (hp : p ≠ .emit) : decodeOp p (.ack 1#1) = .ok .outAcceptIgnored := by
  cases p with
  | emit => exact absurd rfl hp
  | fill | check | discard | fatal => rfl

theorem exec_outAccept {s : State} (hp : s.phase = .emit) : exec .outAccept s = .next s.dropPayload.beginFill := by
  simp [exec, execOutAccept, hp]

theorem exec_outAcceptIgnored {s : State} (hp : s.phase ≠ .emit) : exec .outAcceptIgnored s = .next s := by
  rw [exec, execOutAcceptIgnored]
  cases h : s.phase with
  | emit => exact absurd h hp
  | fill | check | discard | fatal => rfl

/-- In CHECK the internal step is the label taken, whatever else is offered but RESET and a reserved word (R142). -/
theorem step_check {s : State} {ack stall : Bool} {rest : List Offer} (hp : s.phase = .check)
    (ho : s.offers = .ports false ack stall :: rest)
    (hw : stall = true ∨ ∀ w ∈ s.line.head?, evKind w ≠ .reserved) :
    step s = exec .check { s with offers := rest } := by
  have hl : s.label = some .int := by rw [State.label_eq_selectByPhase ho hw, hp, selectByPhase]
  rw [step_of_label_some (i := .check) hl (hp ▸ Laws.HomePhase.check), State.advance, State.wait_of_offers ho]

/-- Settles O17: the decoder's row in EMIT; the payload goes and a fill begins, and FILL presents nothing. -/
theorem acceptStartsTheNextAttempt : Obligations.AcceptStartsTheNextAttempt := fun s hp =>
  ⟨hp ▸ Laws.HomePhase.outAccept, s.dropPayload.beginFill, exec_outAccept hp, rfl, rfl⟩

/-- Settles O18: the decoder's row and the meaning outside EMIT, and CHECK's own label before an ACK. -/
theorem ackOutsideEmitWritesNothing : Obligations.AckOutsideEmitWritesNothing := fun _ hp =>
  ⟨decodeOp_ack_of_ne_emit hp, exec_outAcceptIgnored hp, fun _ _ => step_check⟩

/-! ### EMIT waits with its outputs held (R140, R145) -/

theorem State.outputPayload_of_emit {s : State} {p : Payload} (hp : s.phase = .emit) (hout : s.outPayload = some p) :
    s.outputPayload = .ok p := by
  rw [State.outputPayload, if_pos (s.outValid_iff.2 hp), readValue_ok.2 hout]

theorem State.outputs_of_emit {s : State} {p : Payload} (hp : s.phase = .emit) (hout : s.outPayload = some p) :
    s.outputs = decodePayload p.toList := by
  rw [State.outputs, State.outputPayload_of_emit hp hout]

/-- With no ACK and no RESET, EMIT takes no label: a source event that is offered stays on the line (R105, R140). -/
theorem step_emit_unaccepted {s : State} {stall : Bool} {rest : List Offer} (hp : s.phase = .emit)
    (ho : s.offers = .ports false false stall :: rest)
    (hw : stall = true ∨ ∀ w ∈ s.line.head?, evKind w ≠ .reserved) :
    step s = .next { s with offers := rest } := by
  have hl : s.label = none := by simp [State.label_eq_selectByPhase ho hw, hp, selectByPhase]
  rw [step_of_label_none hl, State.wait_of_offers ho]

/-- Settles O19: the outputs are those of EMIT, and the step is a wait. -/
theorem emitHoldsItsOutputs : Obligations.EmitHoldsItsOutputs := fun s _ _ _ hp hout ho hw =>
  ⟨s.outValid_iff.2 hp, State.outputPayload_of_emit hp hout, State.outputs_of_emit hp hout,
    step_emit_unaccepted hp ho hw⟩

/-! ### The consumer's centering (R152) -/

theorem centered_eq_sub (a : Axis) : centered a = (a.toNat : Int) - 512 := rfl

/-- R152: the range of 16 bits, shifted. -/
theorem centered_bounds (a : Axis) : -512 ≤ centered a ∧ centered a ≤ 65023 := by
  have ha := a.isLt
  rw [centered_eq_sub]
  omega

/-- Settles O27: the difference, its bounds, and the source's three examples computed. -/
theorem centeredIsAxisMinus512 : Obligations.CenteredIsAxisMinus512 :=
  ⟨fun a => ⟨centered_eq_sub a, centered_bounds a⟩, rfl, rfl, rfl⟩

end Sys2Proof.Machine
end

section
/-! PROOFS. RESET (70_reset_and_hazards.md R200) and the four ends of a finite prefix of a run (R211). -/

namespace Sys2Proof

open Sys2Proof.Machine (Phase)

/-- R200: RESET has a row in every phase. -/
theorem decodeOp_rst (p : Phase) : decodeOp p (.rst 1#1) = .ok .reset := rfl

/-- R73: what the decoder answers is an operation that the selector is the word of and the phase has a row for. -/
theorem encode_and_selectedIn_of_decodeOp {p : Phase} {sel : Selector} {i : Instr} (h : decodeOp p sel = .ok i) :
    encode i = sel ∧ i.selectedIn p = true := by
  cases sel with
  | ev w =>
    obtain ⟨k, d, rfl⟩ : ∃ k d, w = evWord k d := ⟨_, _, (evWord_kind_data w).symm⟩
    simp only [decodeOp, decodeEv, evKind_evWord, evData_evWord] at h
    cases k <;> cases p <;> cases h <;> exact ⟨rfl, rfl⟩
  | ack r =>
    simp only [decodeOp, decodeAck] at h
    split at h
    · cases h
    · next hr =>
      obtain rfl : r = 1#1 := (BitVec.eq_zero_or_eq_one r).resolve_left hr
      cases p <;> cases h <;> exact ⟨rfl, rfl⟩
  | rst r =>
    simp only [decodeOp] at h
    split at h
    · cases h
    · next hr =>
      cases h
      exact ⟨congrArg Selector.rst ((BitVec.eq_zero_or_eq_one r).resolve_left hr).symm, rfl⟩
  | int =>
    simp only [decodeOp, decodeInt] at h
    cases p <;> cases h
    exact ⟨rfl, rfl⟩
  | dec q =>
    cases h
    exact ⟨rfl, rfl⟩

end Sys2Proof

namespace Sys2Proof.Machine

/-! ### RESET (R200) -/

theorem exec_reset (s : State) : exec .reset s = .next s.resetBlock := rfl

@[simp] theorem State.resetBlock_isFatal (s : State) : s.resetBlock.isFatal = false := rfl
@[simp] theorem State.resetBlock_outValid (s : State) : s.resetBlock.outValid = false := rfl
@[simp] theorem State.resetBlock_srcReady (s : State) : s.resetBlock.srcReady = true := rfl

/-- Settles O2: the decoder's row in every phase, and `resetBlock`, whose signals are those of FILL. -/
theorem resetRestoresEveryElement : Obligations.ResetRestoresEveryElement := fun s =>
  ⟨decodeOp_rst s.phase, s.resetBlock, exec_reset s, rfl, s.resetBlock_isFatal, s.resetBlock_outValid,
    s.resetBlock_srcReady⟩

/-! ### Which step is refused (R106)

An operation refuses in a phase whose row is another one, or because the word is reserved; a step asks for the row of
its own phase, so only the second is left. -/

/-- In a phase that has the operation, SRC_RESERVED is the only one that is refused. -/
theorem srcReserved_of_exec_refused {i : Instr} {s : State} {r : Refusal} (hi : i.selectedIn s.phase = true)
    (h : exec i s = .refused r) : ∃ d, i = .srcReserved d := by
  cases i with
  | srcByteFill b =>
    have hp : s.phase = .fill := by simpa [Instr.selectedIn] using hi
    simp only [exec, execSrcByteFill, hp] at h
    split at h <;> cases h
  | srcByteDiscard b =>
    have hp : s.phase = .discard := by simpa [Instr.selectedIn] using hi
    simp only [exec, execSrcByteDiscard, hp] at h
    split at h
    · cases h
    · split at h <;> cases h
  | srcTimeoutFill d =>
    have hp : s.phase = .fill := by simpa [Instr.selectedIn] using hi
    cases (exec_srcTimeoutFill d hp).symm.trans h
  | srcTimeoutDiscard d =>
    have hp : s.phase = .discard := by simpa [Instr.selectedIn] using hi
    simp only [exec, execSrcTimeoutDiscard, hp] at h
    split at h
    · cases h
    · split at h <;> cases h
  | srcIoerr d =>
    have hp : s.phase = .fill ∨ s.phase = .discard := by simpa [Instr.selectedIn] using hi
    cases (exec_srcIoerr d hp).symm.trans h
  | srcReserved d => exact ⟨d, rfl⟩
  | check =>
    have hp : s.phase = .check := by simpa [Instr.selectedIn] using hi
    simp only [exec, execCheck, hp] at h
    split at h
    · cases h
    · split at h <;> cases h
  | outAccept =>
    have hp : s.phase = .emit := by simpa [Instr.selectedIn] using hi
    cases (exec_outAccept hp).symm.trans h
  | outAcceptIgnored =>
    have hp : s.phase ≠ .emit := by simpa [Instr.selectedIn] using hi
    cases (exec_outAcceptIgnored hp).symm.trans h
  | reset => cases (exec_reset s).symm.trans h
  | decode q =>
    simp only [exec, execDecode] at h
    split at h <;> cases h

@[simp] theorem State.advance_phase (sel : Selector) (s : State) : (s.advance sel).phase = s.phase := by
  cases sel <;> rfl

/-- A refused step took a reserved word as its label. -/
theorem label_of_step_refused {s : State} {r : Refusal} (h : step s = .refused r) :
    ∃ w, s.label = some (.ev w) ∧ evKind w = .reserved := by
  obtain ⟨-, hs⟩ | ⟨sel, i, hl, hi, hs⟩ := step_cases s
  · cases hs.symm.trans h
  · obtain ⟨rfl, hsel⟩ := encode_and_selectedIn_of_decodeOp hi
    obtain ⟨d, rfl⟩ := srcReserved_of_exec_refused ((State.advance_phase _ s).symm ▸ hsel) (hs.symm.trans h)
    exact ⟨evWord .reserved d, hl, evKind_evWord .reserved d⟩

/-- The source event offered is the word at the head of the line (R62). -/
theorem State.line_head?_of_eventOffered {s : State} {w : EvWord} (hw : s.eventOffered = some w) :
    s.line.head? = some w := by
  unfold State.eventOffered at hw
  split at hw
  next rst ack stall _ =>
    rw [offeredEvent] at hw
    split at hw
    · cases hw
    · exact hw
  next => cases hw

/-- With an event offered and no RESET, a step is refused exactly when the event is reserved. -/
theorem reserved_iff_step_refused {s : State} {w : EvWord} (hr : s.nextOffer.resets = false)
    (hw : s.eventOffered = some w) : evKind w = .reserved ↔ ∃ r, step s = .refused r := by
  refine ⟨fun hk => ⟨_, step_reserved hr hw hk⟩, fun ⟨r, h⟩ => ?_⟩
  obtain ⟨v, hl, hk⟩ := label_of_step_refused h
  have hvw : some v = some w := (arbitrate_ev hl).symm.trans (State.line_head?_of_eventOffered hw)
  exact Option.some.inj hvw ▸ hk

/-! ### The ends of a run (R211) -/

theorem State.endOfRun_eq_waitingForSource_iff (s : State) :
    s.endOfRun = some .waitingForSource ↔ (s.phase = .fill ∨ s.phase = .discard) ∧ s.eventOffered = none := by
  rw [State.endOfRun]
  cases s.phase <;> simp

theorem State.endOfRun_eq_waitingForConsumer_iff (s : State) :
    s.endOfRun = some .waitingForConsumer ↔ s.phase = .emit ∧ s.ackOffered = false := by
  rw [State.endOfRun]
  cases s.phase <;> simp

theorem State.endOfRun_eq_fatal_iff (s : State) : s.endOfRun = some .fatal ↔ s.phase = .fatal := by
  rw [State.endOfRun]
  cases s.phase <;> simp

theorem State.endOfRun_ne_refused (s : State) : s.endOfRun ≠ some .refused := by
  rw [State.endOfRun]
  cases s.phase <;> simp

/-- `refused` is an end of the outcome alone: no state is at it. -/
theorem endOf_eq_refused_iff (o : Host.Outcome State Fault Refusal) :
    endOf o = some .refused ↔ ∃ r, o = .refused r := by
  cases o with
  | next s => simp [endOf, s.endOfRun_ne_refused]
  | fault e => simp [endOf]
  | refused r => simp [endOf]

/-- Settles O48: each end of a state is read off its phase, and a refused end is a refused step. -/
theorem endsOfARun : Obligations.EndsOfARun := fun s =>
  ⟨s.endOfRun_eq_waitingForSource_iff, s.endOfRun_eq_waitingForConsumer_iff, s.endOfRun_eq_fatal_iff,
    fun _ hr hw => (reserved_iff_step_refused hr hw).trans (endOf_eq_refused_iff (step s)).symm⟩

end Sys2Proof.Machine
end

section
/-! PROOFS. The operation map and the encoder (30_encoding.md R70 to R73): they agree in both directions, and the words
of the opcode table read back as their operation. -/

namespace Sys2Proof

open Sys2Proof.Machine (Phase)

/-! ### Decoding the encoding (R73) -/

/-- R73: in a phase that has the operation, its own selector decodes to it. -/
theorem decodeOp_encode {i : Instr} {p : Phase} (hp : i.selectedIn p = true) : decodeOp p (encode i) = .ok i := by
  cases i with
  | srcByteFill b =>
    obtain rfl : p = .fill := by simpa [Instr.selectedIn] using hp
    exact Laws.HomePhase.srcByteFill b
  | srcByteDiscard b =>
    obtain rfl : p = .discard := by simpa [Instr.selectedIn] using hp
    exact Laws.HomePhase.srcByteDiscard b
  | srcTimeoutFill d =>
    obtain rfl : p = .fill := by simpa [Instr.selectedIn] using hp
    exact Laws.HomePhase.srcTimeoutFill d
  | srcTimeoutDiscard d =>
    obtain rfl : p = .discard := by simpa [Instr.selectedIn] using hp
    exact Laws.HomePhase.srcTimeoutDiscard d
  | srcIoerr d => exact decodeOp_ev_ioerr (by simpa [Instr.selectedIn] using hp) d
  | srcReserved d =>
    rw [encode, decodeOp_ev_reserved p _ (evKind_evWord .reserved d), evData_evWord]
  | check =>
    obtain rfl : p = .check := by simpa [Instr.selectedIn] using hp
    rfl
  | outAccept =>
    obtain rfl : p = .emit := by simpa [Instr.selectedIn] using hp
    rfl
  | outAcceptIgnored => exact Machine.decodeOp_ack_of_ne_emit (by simpa [Instr.selectedIn] using hp)
  | reset => exact decodeOp_rst p
  | decode q => rfl

/-- Settles O43: the decoder answers rows of R73 only, and it answers each of them. -/
theorem decodeAndEncodeAgree : Obligations.DecodeAndEncodeAgree := fun _ _ _ =>
  ⟨encode_and_selectedIn_of_decodeOp, fun ⟨he, hp⟩ => he ▸ decodeOp_encode hp⟩

/-- Settles O46: the map computed on the eleven words. -/
theorem writtenWordsDecode : Obligations.WrittenWordsDecode :=
  ⟨rfl, rfl, rfl, rfl, rfl, rfl, rfl, rfl, rfl, rfl, rfl⟩

theorem Instr.selectedIn_homePhase (i : Instr) : i.selectedIn i.homePhase = true := by
  cases i <;> rfl

/-! ### The payload bus as a number (R75) -/

theorem natOfBytes_lt (q : List Byte) : natOfBytes q < 256 ^ q.length := by
  induction q with
  | nil => simp [natOfBytes]
  | cons b t ih =>
    have hb := b.isLt
    rw [natOfBytes, List.length_cons, Nat.pow_succ]
    omega

/-- R75: no byte of the sequence is lost in the number, once its length is known. -/
theorem bytesOfNat_natOfBytes (q : List Byte) : bytesOfNat q.length (natOfBytes q) = q := by
  induction q with
  | nil => rfl
  | cons b t ih =>
    have hb := b.isLt
    have hlow : BitVec.ofNat 8 (b.toNat + 256 * natOfBytes t) = b := by
      apply BitVec.eq_of_toNat_eq
      rw [BitVec.toNat_ofNat]
      omega
    have hrest : (b.toNat + 256 * natOfBytes t) / 256 = natOfBytes t := by omega
    rw [List.length_cons, natOfBytes, bytesOfNat, hlow, hrest, ih]

/-! ### The words of the opcode table -/

/-- The 16-bit layout: the phase code stands above the event word. -/
theorem tableSelect_ev (p : Phase) (w : EvWord) :
    tableSelect 16 (p.code.toNat * 2 ^ 13 + w.toNat) = some (p, .ev w) := by
  have hw := w.isLt
  have hp := p.code.isLt
  have hsmall : ¬ 2 ^ 16 ≤ p.code.toNat * 2 ^ 13 + w.toNat := by omega
  have hgap : (p.code.toNat * 2 ^ 13 + w.toNat) / 2 ^ 10 % 8 = 0 := by omega
  have hphase : (p.code.toNat * 2 ^ 13 + w.toNat) / 2 ^ 13 = p.code.toNat := by omega
  have hword : BitVec.ofNat 10 (p.code.toNat * 2 ^ 13 + w.toNat) = w := by
    apply BitVec.eq_of_toNat_eq
    rw [BitVec.toNat_ofNat]
    omega
  rw [tableSelect, if_neg hsmall, if_pos rfl, if_neg (not_not_intro hgap), hphase, hword, BitVec.ofNat_toNat,
    BitVec.setWidth_eq, Phase.ofCode?_code, Option.map_some]

/-- The 112-bit layout is the payload bus. -/
theorem tableSelect_dec {q : List Byte} (hq : q.length = payloadLen) :
    tableSelect 112 (natOfBytes q) = some (.fill, .dec q) := by
  have hlt : natOfBytes q < 2 ^ 112 := by simpa [hq, payloadLen] using natOfBytes_lt q
  have hbytes : bytesOfNat payloadLen (natOfBytes q) = q := hq ▸ bytesOfNat_natOfBytes q
  rw [tableSelect, if_neg (by omega), if_neg (by decide), if_neg (by decide), if_pos rfl, hbytes]

/-- A well-formed operation's table word names its selector, and a phase that has it. -/
theorem tableSelect_encodeTableWord {i : Instr} (hi : i.wellFormed = true) :
    tableSelect (encodeTableWord i).1 (encodeTableWord i).2 = some (i.homePhase, encode i) := by
  cases i with
  | srcByteFill b | srcByteDiscard b | srcTimeoutFill b | srcTimeoutDiscard b | srcIoerr b | srcReserved b =>
    exact tableSelect_ev _ _
  | check | outAccept | outAcceptIgnored | reset => rfl
  | decode q => exact tableSelect_dec (by simpa [Instr.wellFormed] using hi)

/-- Settles O44: the word gives back the phase and the selector, which decode to the operation. -/
theorem tableWordRoundTrip : Obligations.TableWordRoundTrip := fun i hi => by
  rw [decodeTableWord, tableSelect_encodeTableWord hi]
  simp [decodeOp_encode i.selectedIn_homePhase, Except.toOption]

end Sys2Proof
end

section
/-! PROOFS. CHECK (41_frame_check.md): what the marker scan answers at the first deciding index (R124, R125), the range
of a skip (R128), and the two ends of CHECK (R120). -/

namespace Sys2Proof.Machine

/-! ### The marker scan over a list (R122, R124)

`scan` runs along a list, so the deciding index is first said of a list; `scanDecides_iff` ties it to the frame's. -/

/-- Index `j` of the bytes still to scan decides the scan: `ScanDecides`, for the rest of a frame. -/
def DecidesAt (mode : LoneMarkerScan) (l : List Byte) (j : Nat) : Prop :=
  l[j]? = some markerByte ∧ (j + 1 = l.length ∨ l[j + 1]? = some markerByte ∨ mode = .stopSkip1)

theorem decidesAt_cons_succ {mode : LoneMarkerScan} {b : Byte} {t : List Byte} {j : Nat} :
    DecidesAt mode (b :: t) (j + 1) ↔ DecidesAt mode t j := by
  simp [DecidesAt]

/-- The frame's deciding index is that of the bytes from SCAN_LO on (R124). -/
theorem scanDecides_iff {mode : LoneMarkerScan} {f : RawFrame} {i : Nat} :
    ScanDecides mode f i ↔ 1 ≤ i ∧ DecidesAt mode (f.toList.drop scanLo) (i - 1) := by
  refine and_congr_right fun hi => ?_
  obtain ⟨j, rfl⟩ : ∃ j, i = j + 1 := ⟨i - 1, by omega⟩
  simp [DecidesAt, scanLo]

/-- A byte that does not decide is passed over. -/
theorem scan_cons_of_not_decides {mode : LoneMarkerScan} {k : Nat} {b : Byte} {t : List Byte}
    (h : ¬ DecidesAt mode (b :: t) 0) : scan mode k (b :: t) = scan mode (k + 1) t := by
  cases t with
  | nil =>
    have hb : b ≠ markerByte := by simpa [DecidesAt] using h
    simp [scan, hb]
  | cons c t =>
    by_cases hb : b = markerByte
    · obtain ⟨hc, hm⟩ : c ≠ markerByte ∧ mode ≠ .stopSkip1 := by simpa [DecidesAt, hb] using h
      cases mode with
      | continueScan => simp [scan, hb, hc]
      | stopSkip1 => exact absurd rfl hm
    · simp [scan, hb]

/-- A byte that decides ends the scan: with its own index for a full marker or a straddle, with 1 for a lone one. -/
theorem scan_cons_of_decides {mode : LoneMarkerScan} {k : Nat} {b : Byte} {t : List Byte}
    (h : DecidesAt mode (b :: t) 0) :
    scan mode k (b :: t) = if t = [] ∨ t[0]? = some markerByte then k else 1 := by
  obtain ⟨hb, hwhy⟩ := h
  obtain rfl : b = markerByte := by simpa using hb
  cases t with
  | nil => simp [scan]
  | cons c t =>
    by_cases hc : c = markerByte
    · simp [scan, hc]
    · obtain rfl : mode = .stopSkip1 := by simpa [hc] using hwhy
      simp [scan, hc]

/-- R125: with no deciding index the scan ends with 1. -/
theorem scan_of_none_decides {mode : LoneMarkerScan} {k : Nat} {l : List Byte} (h : ∀ j, ¬ DecidesAt mode l j) :
    scan mode k l = 1 := by
  induction l generalizing k with
  | nil => rfl
  | cons b t ih =>
    rw [scan_cons_of_not_decides (h 0), ih fun j hj => h (j + 1) (decidesAt_cons_succ.2 hj)]

/-- R124: the first deciding index gives the value. -/
theorem scan_of_first_decides {mode : LoneMarkerScan} {k j : Nat} {l : List Byte} (hj : DecidesAt mode l j)
    (hfirst : ∀ j' < j, ¬ DecidesAt mode l j') :
    scan mode k l = if j + 1 = l.length ∨ l[j + 1]? = some markerByte then k + j else 1 := by
  induction l generalizing k j with
  | nil => simp [DecidesAt] at hj
  | cons b t ih =>
    cases j with
    | zero => simp [scan_cons_of_decides hj]
    | succ j =>
      have hrest := ih (k := k + 1) (decidesAt_cons_succ.1 hj) fun j' hlt hj' =>
        hfirst (j' + 1) (by omega) (decidesAt_cons_succ.2 hj')
      rw [scan_cons_of_not_decides (hfirst 0 (by omega)), hrest]
      simp [Nat.add_assoc, Nat.add_comm 1]

/-- R128: the scan answers 1 or an index it has read. -/
theorem scan_bounds (mode : LoneMarkerScan) {k : Nat} {l : List Byte} (hk : 1 ≤ k) (hl : k + l.length ≤ 16) :
    1 ≤ scan mode k l ∧ scan mode k l ≤ 15 := by
  induction l generalizing k with
  | nil => simp [scan]
  | cons b t ih =>
    rw [List.length_cons] at hl
    by_cases h : DecidesAt mode (b :: t) 0
    · rw [scan_cons_of_decides h]
      split <;> omega
    · rw [scan_cons_of_not_decides h]
      exact ih (by omega) (by omega)

/-! ### The verdict (R122, R128) -/

theorem classify_of_not_aligned {f : RawFrame} (mode : LoneMarkerScan) (h : ¬ (f[0] = 0xFF#8 ∧ f[1] = 0xFF#8)) :
    classify mode f = .skip (BitVec.ofNat 4 (scan mode scanLo (f.toList.drop scanLo))) := by
  rw [classify, if_neg fun ha => h ((isAligned_iff f).1 ha)]

/-- R124, R125: the verdict at the first deciding index. -/
theorem classify_of_first_decides {mode : LoneMarkerScan} {f : RawFrame} {i : Nat}
    (h : ¬ (f[0] = 0xFF#8 ∧ f[1] = 0xFF#8)) (hi : ScanDecides mode f i) (hfirst : ∀ j < i, ¬ ScanDecides mode f j) :
    classify mode f = .skip (BitVec.ofNat 4 (if i = 15 ∨ f[i + 1]? = some 0xFF#8 then i else 1)) := by
  obtain ⟨hpos, hdec⟩ := scanDecides_iff.1 hi
  obtain ⟨j, rfl⟩ : ∃ j, i = j + 1 := ⟨i - 1, by omega⟩
  have hscan := scan_of_first_decides (k := scanLo) hdec fun j' hlt hj' =>
    hfirst (j' + 1) (by omega) (scanDecides_iff.2 ⟨by omega, hj'⟩)
  rw [classify_of_not_aligned mode h, hscan]
  simp [scanLo, markerByte, Nat.add_comm 1]

/-- R125: the verdict where no index decides. -/
theorem classify_of_none_decides {mode : LoneMarkerScan} {f : RawFrame} (h : ¬ (f[0] = 0xFF#8 ∧ f[1] = 0xFF#8))
    (hnone : ∀ i, ¬ ScanDecides mode f i) : classify mode f = .skip 1#4 := by
  rw [classify_of_not_aligned mode h, scan_of_none_decides fun j hj => hnone (j + 1) (scanDecides_iff.2 ⟨by omega, hj⟩)]

/-- R128: a skip is the scan's answer, and 4 bits hold it. -/
theorem classify_skip_bounds {mode : LoneMarkerScan} {f : RawFrame} {n : BitVec 4} (h : classify mode f = .skip n) :
    1 ≤ n.toNat ∧ n.toNat ≤ 15 := by
  have hbounds := scan_bounds mode (k := scanLo) (l := f.toList.drop scanLo) (by decide) (by simp [scanLo])
  rw [classify] at h
  split at h
  · cases h
  · injection h with hn
    rw [← hn, BitVec.toNat_ofNat]
    omega

/-- Settles O16: the bounds of the scan. -/
theorem everySkipIsBetween1And15 : Obligations.EverySkipIsBetween1And15 := fun _ _ _ => classify_skip_bounds

/-- Settles O15: the value of the first deciding index in its three forms, 1 where none decides, and the Skip path of
CHECK. -/
theorem skipIsTheFirstDecidingIndex : Obligations.SkipIsTheFirstDecidingIndex := fun mode f h => by
  refine ⟨fun i hi hfirst => ?_, classify_of_none_decides h, fun s hp hm hcells => ?_⟩
  · have hclass := classify_of_first_decides h hi hfirst
    refine ⟨fun hfull => ?_, fun hlast => ?_, fun hlast hfull => ?_⟩
    · rw [hclass, if_pos (.inr hfull)]
    · rw [hclass, if_pos (.inl hlast), hlast]
    · rw [hclass, if_neg (not_or.2 ⟨hlast, hfull⟩)]
  · have hskip := classify_of_not_aligned mode h
    exact ⟨_, _, hskip, execCheck_skip hp (readFrame_ok_iff_cells.2 hcells) (hm ▸ hskip), rfl, rfl, rfl⟩

/-! ### The two ends of CHECK (R120) -/

/-- Settles O13: the Aligned path presents bytes 2 to 15, the Skip path starts a discard. -/
theorem checkPresentsOrDiscards : Obligations.CheckPresentsOrDiscards := fun s f hp hcells => by
  have hread : readFrame s.buf = .ok f := readFrame_ok_iff_cells.2 hcells
  refine ⟨hp ▸ Laws.HomePhase.check, fun hc => ?_, fun n hc => execCheck_skip hp hread hc⟩
  exact ⟨payloadOf f, payloadOf_getElem f, s.present (payloadOf f), execCheck_aligned hp hread hc, rfl,
    (State.outValid_iff _).2 rfl⟩

end Sys2Proof.Machine
end

section
/-! PROOFS. The label of a step (60_exceptions.md R178, 70_reset_and_hazards.md R201) and the operation it runs
(30_encoding.md R73); every operation asked for outside its phase or its requirements. -/

namespace Sys2Proof.Machine

/-! ### What is offered and what is taken -/

theorem arbitrate_of_reserved {w : EvWord} (hk : evKind w = .reserved) (p : Phase) (ack : Bool) (line : List EvWord) :
    arbitrate p (.ports false ack false) (w :: line) = some (.ev w) := by
  simp [arbitrate_ports, offeredEvent, hk]

theorem arbitrate_of_unreserved {w : EvWord} (hk : evKind w ≠ .reserved) (p : Phase) (ack : Bool)
    (line : List EvWord) :
    arbitrate p (.ports false ack false) (w :: line) = selectByPhase p ack (some w) := by
  simp [arbitrate_ports, offeredEvent, hk]

/-- On an empty line, or with the word held back, there is no event. -/
theorem arbitrate_of_no_event {line : List EvWord} {stall : Bool} (h : line = [] ∨ stall = true) (p : Phase)
    (ack : Bool) : arbitrate p (.ports false ack stall) line = selectByPhase p ack none := by
  have hev : offeredEvent stall line = none := by
    rcases h with rfl | rfl <;> simp [offeredEvent]
  simp [arbitrate_ports, hev]

theorem selectByPhase_event {p : Phase} (hp : p = .fill ∨ p = .discard) (ack : Bool) (w : EvWord) :
    selectByPhase p ack (some w) = some (.ev w) := by
  rcases hp with rfl | rfl <;> rfl

theorem selectByPhase_check (ack : Bool) (ev : Option EvWord) : selectByPhase .check ack ev = some .int := rfl

theorem selectByPhase_closed {p : Phase} (hp : p = .emit ∨ p = .fatal) (ack : Bool) (ev : Option EvWord) :
    selectByPhase p ack ev = if ack then some (.ack 1#1) else none := by
  rcases hp with rfl | rfl <;> rfl

theorem selectByPhase_no_event {p : Phase} (hp : p ≠ .check) (ack : Bool) :
    selectByPhase p ack none = if ack then some (.ack 1#1) else none := by
  cases p with
  | check => exact absurd rfl hp
  | fill | discard | emit | fatal => rfl

/-- Settles O42: a reserved word before the phase's own choice, which is read off the phase. -/
theorem oneLabelPerStep : Obligations.OneLabelPerStep := fun p ack stall line w => by
  refine ⟨fun hk => arbitrate_of_reserved hk p ack line, fun hk => ?_, fun hnone => ?_⟩
  · rw [arbitrate_of_unreserved hk]
    exact ⟨fun hp => selectByPhase_event hp ack w, fun hp => hp ▸ selectByPhase_check ack _,
      fun hp => selectByPhase_closed hp ack _⟩
  · rw [arbitrate_of_no_event hnone]
    exact ⟨fun hp => hp ▸ selectByPhase_check ack _, fun hp => selectByPhase_no_event hp ack⟩

/-! ### What a label says of the neighbours' entry -/

/-- R201: RESET offered is the label taken. -/
theorem State.label_of_resets {s : State} (h : s.nextOffer.resets = true) : s.label = some (.rst 1#1) := by
  rw [State.label]
  cases ho : s.nextOffer with
  | decode q => simp [ho, Offer.resets] at h
  | ports rst ack stall =>
    obtain rfl : rst = true := by simpa [ho, Offer.resets] using h
    rfl

/-- The phase alone never selects RESET or a use of the decoder. -/
theorem selectByPhase_cases {p : Phase} {ack : Bool} {ev : Option EvWord} {sel : Selector}
    (h : selectByPhase p ack ev = some sel) : sel = .int ∨ sel = .ack 1#1 ∨ ∃ w, sel = .ev w ∧ ev = some w := by
  cases p <;> cases ev <;> cases ack <;> simp [selectByPhase] at h <;> subst h <;> simp

/-- The four ways a label comes about, in the order of the arbitration. -/
theorem State.label_cases {s : State} {sel : Selector} (h : s.label = some sel) :
    (∃ q, s.nextOffer = .decode q ∧ sel = .dec q) ∨
    (s.nextOffer.resets = true ∧ sel = .rst 1#1) ∨
    (s.nextOffer.isBlockStep = true ∧ s.nextOffer.resets = false ∧
      (sel = .int ∨ sel = .ack 1#1 ∨ ∃ w, sel = .ev w ∧ s.eventOffered = some w)) := by
  cases ho : s.nextOffer with
  | decode q =>
    rw [State.label, ho, arbitrate, Option.some.injEq] at h
    exact .inl ⟨q, rfl, h.symm⟩
  | ports rst ack stall =>
    cases rst with
    | true =>
      rw [State.label_of_resets (by simp [ho, Offer.resets]), Option.some.injEq] at h
      exact .inr (.inl ⟨rfl, h.symm⟩)
    | false =>
      refine .inr (.inr ⟨rfl, rfl, ?_⟩)
      have hoffered : s.eventOffered = offeredEvent stall s.line := by rw [State.eventOffered, ho]
      rw [State.label, ho, arbitrate_ports, if_neg Bool.false_ne_true] at h
      cases hev : offeredEvent stall s.line with
      | none =>
        rw [hev] at h
        simpa [hoffered, hev] using selectByPhase_cases h
      | some w =>
        simp only [hev] at h
        split at h
        · exact .inr (.inr ⟨w, (Option.some.inj h).symm, hoffered.trans hev⟩)
        · simpa [hoffered, hev] using selectByPhase_cases h

/-- A source event is taken only where it is offered and RESET is not. -/
theorem State.eventOffered_of_label {s : State} {w : EvWord} (h : s.label = some (.ev w)) :
    s.nextOffer.resets = false ∧ s.eventOffered = some w := by
  obtain ⟨q, -, hq⟩ | ⟨-, hr⟩ | ⟨-, hres, hi | ha | ⟨v, hv, hoff⟩⟩ := s.label_cases h
  · cases hq
  · cases hr
  · cases hi
  · cases ha
  · cases hv
    exact ⟨hres, hoff⟩

theorem State.resets_of_label {s : State} {r : BitVec 1} (h : s.label = some (.rst r)) :
    s.nextOffer.resets = true := by
  obtain ⟨q, -, hq⟩ | ⟨hres, -⟩ | ⟨-, -, hi | ha | ⟨v, hv, -⟩⟩ := s.label_cases h
  · cases hq
  · exact hres
  · cases hi
  · cases ha
  · cases hv

theorem State.label_eq_dec_iff {s : State} {q : List Byte} :
    s.label = some (.dec q) ↔ s.nextOffer = .decode q := by
  refine ⟨fun h => ?_, fun h => by rw [State.label, h, arbitrate]⟩
  obtain ⟨q', ho, hq⟩ | ⟨-, hr⟩ | ⟨-, -, hi | ha | ⟨v, hv, -⟩⟩ := s.label_cases h
  · cases hq
    exact ho
  · cases hr
  · cases hi
  · cases ha
  · cases hv

/-! ### The step (R73, R201) -/

theorem State.advance_of_ne_ev {sel : Selector} (h : ∀ w, sel ≠ .ev w) (s : State) : s.advance sel = s.wait := by
  cases sel with
  | ev w => exact absurd rfl (h w)
  | ack | rst | int | dec => rfl

/-- Settles O41: the wait, and the decoded operation after a source event or another label is taken. -/
theorem stepRunsTheDecodedOperation : Obligations.StepRunsTheDecodedOperation := fun s => by
  refine ⟨step_of_label_none, fun w i => step_of_label_some, fun sel i hl hsel hi => ?_⟩
  rw [step_of_label_some hl hi, State.advance_of_ne_ev hsel, State.wait]

/-- A step waits, or runs the operation whose own selector is its label, in a phase that has it. -/
theorem step_runs (s : State) :
    (s.label = none ∧ step s = .next s.wait) ∨
    ∃ i, s.label = some (encode i) ∧ i.selectedIn s.phase = true ∧ step s = exec i (s.advance (encode i)) := by
  obtain hwait | ⟨sel, i, hl, hi, hs⟩ := step_cases s
  · exact .inl hwait
  · obtain ⟨rfl, hp⟩ := encode_and_selectedIn_of_decodeOp hi
    exact .inr ⟨i, hl, hp, hs⟩

/-- R201: the step in which RESET is offered. -/
theorem step_of_resets {s : State} (h : s.nextOffer.resets = true) : step s = .next s.wait.resetBlock := by
  rw [step_of_label_some (State.label_of_resets h) (decodeOp_rst s.phase), exec_reset, State.advance]

/-- Settles O3: RESET is the label, and its step is `resetBlock` after the entry is used up. -/
theorem resetWinsOverEveryOtherLabel : Obligations.ResetWinsOverEveryOtherLabel := fun s ack stall rest ho => by
  have hres : s.nextOffer.resets = true := by simp [State.nextOffer, State.agenda_of_offers ho, Offer.resets]
  rw [step_of_resets hres, State.wait_of_offers ho, State.resetBlock]

/-! ### A placed word (notes/assumptions/6.md) -/

theorem takenIn_homePhase (i : Instr) : takenIn i i.homePhase = true := by
  cases i <;> rfl

/-- The phase `offerOp` leaves takes the operation. -/
theorem takenIn_offerOp_phase (i : Instr) (s : State) : takenIn i (s.offerOp i).phase = true := by
  rw [State.offerOp]
  dsimp only
  split
  · assumption
  · exact takenIn_homePhase i

/-- In a phase that takes the operation, its label is the one taken when it alone is offered. -/
theorem arbitrate_offerFor {i : Instr} {p : Phase} (hp : takenIn i p = true) (line : List EvWord) :
    arbitrate p (offerFor (encode i)) (wordsFor (encode i) ++ line) = some (encode i) := by
  obtain ⟨hsel, hack⟩ : i.selectedIn p = true ∧ (i = .outAcceptIgnored → p ≠ .check) := by
    simpa [takenIn, imp_iff_not_or] using hp
  cases i with
  | srcByteFill b | srcTimeoutFill b | srcByteDiscard b | srcTimeoutDiscard b =>
    refine (arbitrate_of_unreserved (by simp) p false line).trans (selectByPhase_event ?_ false _)
    simp_all [Instr.selectedIn]
  | srcIoerr d =>
    refine (arbitrate_of_unreserved (by simp) p false line).trans (selectByPhase_event ?_ false _)
    simpa [Instr.selectedIn] using hsel
  | srcReserved d => exact arbitrate_of_reserved (evKind_evWord .reserved d) p false line
  | check =>
    obtain rfl : p = .check := by simpa [Instr.selectedIn] using hsel
    exact arbitrate_of_no_event (.inr rfl) .check false
  | outAccept =>
    obtain rfl : p = .emit := by simpa [Instr.selectedIn] using hsel
    exact arbitrate_of_no_event (.inr rfl) .emit true
  | outAcceptIgnored =>
    exact (arbitrate_of_no_event (.inr rfl) p true).trans (selectByPhase_no_event (hack rfl) true)
  | reset => rfl
  | decode q => rfl

theorem State.label_offerOp (i : Instr) (s : State) : (s.offerOp i).label = some (encode i) := by
  have hoffer : (s.offerOp i).nextOffer = offerFor (encode i) := rfl
  obtain ⟨l, hline⟩ : ∃ l, (s.offerOp i).line = wordsFor (encode i) ++ l := by
    cases h : encode i with
    | ev w => exact ⟨s.source, by simp [State.line, State.offerOp, h, wordsFor]⟩
    | ack | rst | int | dec => exact ⟨(s.offerOp i).line, rfl⟩
  rw [State.label, hoffer, hline, arbitrate_offerFor (takenIn_offerOp_phase i s)]

theorem selectedIn_of_takenIn {i : Instr} {p : Phase} (h : takenIn i p = true) : i.selectedIn p = true := by
  rw [takenIn, Bool.and_eq_true] at h
  exact h.1

/-- Settles O45: the placed label is taken, decodes to the operation, and is used up. -/
theorem placedWordRunsNext : Obligations.PlacedWordRunsNext := fun s nbits w i hdec => by
  have hplaced : s.withFetchWord nbits w = s.offerOp i := by rw [State.withFetchWord, State.offerWord, hdec]
  rw [hplaced, step_of_label_some (s.label_offerOp i)
    (decodeOp_encode (selectedIn_of_takenIn (takenIn_offerOp_phase i s)))]
  cases i <;> rfl

/-! ### Outside the phase, and outside the requirements (notes/assumptions/7.md, 8.md) -/

/-- In the phases that take no source event nothing changes (R105). -/
theorem exec_event_of_closed {s : State} (hp : s.phase = .check ∨ s.phase = .emit ∨ s.phase = .fatal) (b : Byte) :
    exec (.srcByteFill b) s = .next s ∧ exec (.srcByteDiscard b) s = .next s ∧
    exec (.srcTimeoutFill b) s = .next s ∧ exec (.srcTimeoutDiscard b) s = .next s ∧
    exec (.srcIoerr b) s = .next s := by
  rcases hp with hp | hp | hp <;>
    simp [exec, execSrcByteFill, execSrcByteDiscard, execSrcTimeoutFill, execSrcTimeoutDiscard, execSrcIoerr, hp]

theorem exec_outAccept_of_ne_emit {s : State} (hp : s.phase ≠ .emit) :
    exec .outAccept s = .refused .notSelected := by
  rw [exec, execOutAccept]
  cases h : s.phase with
  | emit => exact absurd h hp
  | fill | check | discard | fatal => rfl

theorem exec_check_of_ne_check {s : State} (hp : s.phase ≠ .check) : exec .check s = .next s := by
  rw [exec, execCheck]
  cases h : s.phase with
  | check => exact absurd h hp
  | fill | discard | emit | fatal => rfl

/-- Settles O49: each meaning outside its own phase. -/
theorem operationsOutsideTheirPhase : Obligations.OperationsOutsideTheirPhase := fun s b => by
  refine ⟨fun hp => ?_, fun hp => ?_, exec_outAccept_of_ne_emit, fun hp => ?_, exec_check_of_ne_check,
    fun hp => exec_event_of_closed hp b⟩
  · simp [exec, execSrcByteFill, execSrcTimeoutFill, hp]
  · simp [exec, execSrcByteDiscard, execSrcTimeoutDiscard, hp]
  · simp [exec, execOutAcceptIgnored, hp]

/-- A buffer with an empty cell faults when it is read whole (R13). -/
theorem readFrame_of_empty_cell {buf : FrameBuffer} {i : Fin 16} (hi : buf[i] = none) :
    readFrame buf = .error .readOfNone := by
  cases h : readFrame buf with
  | ok f => simp [readFrame_ok_iff_cells.1 h i] at hi
  | error e => rw [(readFrame_error h).1]

/-- Settles O50: each meaning without what it requires. -/
theorem outsideTheirRequirementsOperationsFault : Obligations.OutsideTheirRequirementsOperationsFault := fun s b => by
  refine ⟨fun hp hc => ?_, fun hp hr => ?_, fun hp hm hs => ?_, fun hp ⟨i, hi⟩ => ?_⟩
  · have hfull : ¬ s.cnt ≤ 15#5 := fun hle => by
      have : s.cnt.toNat ≤ 15 := BitVec.le_def.1 hle
      omega
    simp [exec, execSrcByteFill, hp, hfull]
  · simp [exec, execSrcByteDiscard, hp, hr]
  · simp [exec, execSrcTimeoutDiscard, hp, hm, hs, readValue]
  · simp [exec, execCheck, hp, readFrame_of_empty_cell hi]

/-! ### SRC_BYTE.DISCARD (R101) -/

theorem exec_srcByteDiscard_last {s : State} (b : Byte) (hp : s.phase = .discard) (hr : s.rem = 1#4) :
    exec (.srcByteDiscard b) s = .next (s.setRem 0#4).beginFill := by
  simp [exec, execSrcByteDiscard, hp, hr]

theorem exec_srcByteDiscard_more {s : State} (b : Byte) (hp : s.phase = .discard) (h0 : s.rem ≠ 0#4)
    (h1 : s.rem ≠ 1#4) : exec (.srcByteDiscard b) s = .next (s.setRem (s.rem - 1#4)) := by
  simp [exec, execSrcByteDiscard, hp, h0, h1]

/-- Settles O5: the decoder's row in DISCARD; the last byte begins a fill, any other only counts. -/
theorem discardCountsDown : Obligations.DiscardCountsDown := fun s b hp hr => by
  refine ⟨hp ▸ Laws.HomePhase.srcByteDiscard b, ?_⟩
  split
  · next h1 => exact exec_srcByteDiscard_last b hp h1
  · next h1 => exact exec_srcByteDiscard_more b hp (fun h0 => by simp [h0] at hr) h1

end Sys2Proof.Machine
end

section
/-! PROOFS. What one step can do, said once (`StepEffect`), and what every step therefore keeps: the invariants of
10_state.md R33 and the claims on phase, cause, buffer, emissions and parameters. -/

namespace Sys2Proof.Machine

/-! ### The effects of a step -/

/-- What a step that answers a next state has done, with the guard of each case (R72, R73, R100 to R106, R120, R141 to
R143, R200). A step that takes no label, and one that takes an ACK outside EMIT, do the same: they wait. -/
inductive StepEffect (s : State) : State → Prop
  | wait : StepEffect s s.wait
  | storeByte (b : Byte) (hp : s.phase = .fill) (hc : s.cnt ≤ 15#5) (hl : s.label = some (.ev (evWord .byte b))) :
      StepEffect s (s.consume.storeByte b)
  | restartFill (d : Byte) (hp : s.phase = .fill) (hl : s.label = some (.ev (evWord .timeout d))) :
      StepEffect s s.consume.beginFill
  | endDiscard (b : Byte) (hp : s.phase = .discard) (hr : s.rem = 1#4)
      (hl : s.label = some (.ev (evWord .byte b))) : StepEffect s (s.consume.setRem (s.rem - 1#4)).beginFill
  | countDown (b : Byte) (hp : s.phase = .discard) (h0 : s.rem ≠ 0#4) (h1 : s.rem ≠ 1#4)
      (hl : s.label = some (.ev (evWord .byte b))) : StepEffect s (s.consume.setRem (s.rem - 1#4))
  | restartDiscard (d : Byte) (n : BitVec 4) (hp : s.phase = .discard)
      (hm : s.config.discardTimeoutMode = .restart) (hn : s.skip = some n)
      (hl : s.label = some (.ev (evWord .timeout d))) : StepEffect s (s.consume.setRem n)
  | resumeDiscard (d : Byte) (hp : s.phase = .discard) (hm : s.config.discardTimeoutMode = .resume)
      (hl : s.label = some (.ev (evWord .timeout d))) : StepEffect s s.consume
  | raiseFatal (d : Byte) (hp : s.phase = .fill ∨ s.phase = .discard)
      (hl : s.label = some (.ev (evWord .ioerr d))) : StepEffect s (s.consume.raiseFatal .ioFailure)
  | present (f : RawFrame) (hp : s.phase = .check) (hf : readFrame s.buf = .ok f)
      (hc : classify s.config.loneMarkerScan f = .aligned) : StepEffect s (s.wait.present (payloadOf f))
  | startDiscard (f : RawFrame) (n : BitVec 4) (hp : s.phase = .check) (hf : readFrame s.buf = .ok f)
      (hc : classify s.config.loneMarkerScan f = .skip n) : StepEffect s (s.wait.startDiscard n)
  | accept (hp : s.phase = .emit) : StepEffect s s.wait.dropPayload.beginFill
  | reset (hr : s.nextOffer.resets = true) : StepEffect s s.wait.resetBlock
  | decode (q : List Byte) (ho : s.nextOffer = .decode q) (hq : q.length = payloadLen) :
      StepEffect s (s.wait.setDecoded (buttonState q))

/-- A step that answers a next state has one of these effects: the operation runs in a phase that has it, so the case
of each meaning that stands for another phase falls away. -/
theorem step_effect {s t : State} (h : step s = .next t) : StepEffect s t := by
  obtain ⟨-, hs⟩ | ⟨i, hl, hp, hs⟩ := step_runs s
  · cases hs.symm.trans h
    exact .wait
  have hexec := hs.symm.trans h
  cases i with
  | srcByteFill b =>
    obtain ⟨hfill, hc, rfl⟩ | ⟨hne, -, -⟩ := execSrcByteFill_next hexec
    · exact .storeByte b hfill hc hl
    · exact absurd (by simpa [Instr.selectedIn] using hp) hne
  | srcByteDiscard b =>
    obtain ⟨hd, hr, rfl⟩ | ⟨hd, h0, h1, rfl⟩ | ⟨-, hne, -⟩ := execSrcByteDiscard_next (b := b) hexec
    · exact .endDiscard b hd hr hl
    · exact .countDown b hd h0 h1 hl
    · exact absurd (by simpa [Instr.selectedIn] using hp) hne
  | srcTimeoutFill d =>
    obtain ⟨hfill, rfl⟩ | ⟨hne, -, -⟩ := execSrcTimeoutFill_next (d := d) hexec
    · exact .restartFill d hfill hl
    · exact absurd (by simpa [Instr.selectedIn] using hp) hne
  | srcTimeoutDiscard d =>
    obtain ⟨hd, hm, n, hn, rfl⟩ | ⟨hd, hm, rfl⟩ | ⟨-, hne, -⟩ := execSrcTimeoutDiscard_next (d := d) hexec
    · exact .restartDiscard d n hd hm hn hl
    · exact .resumeDiscard d hd hm hl
    · exact absurd (by simpa [Instr.selectedIn] using hp) hne
  | srcIoerr d =>
    obtain ⟨hopen, rfl⟩ | ⟨hf, hd, -⟩ := execSrcIoerr_next (d := d) hexec
    · exact .raiseFatal d hopen hl
    · exact absurd (by simpa [Instr.selectedIn] using hp) (not_or.2 ⟨hf, hd⟩)
  | srcReserved d => cases hexec
  | check =>
    obtain ⟨hc, f, hf, ⟨ha, rfl⟩ | ⟨n, hn, rfl⟩⟩ | ⟨hne, -⟩ := execCheck_next hexec
    · exact .present f hc hf ha
    · exact .startDiscard f n hc hf hn
    · exact absurd (by simpa [Instr.selectedIn] using hp) hne
  | outAccept =>
    obtain ⟨he, rfl⟩ := execOutAccept_next hexec
    exact .accept he
  | outAcceptIgnored =>
    obtain ⟨-, rfl⟩ := execOutAcceptIgnored_next hexec
    exact .wait
  | reset =>
    cases hexec
    exact .reset (State.resets_of_label hl)
  | decode q =>
    obtain ⟨hq, rfl⟩ := execDecode_next hexec
    exact .decode q (State.label_eq_dec_iff.1 hl) hq

/-- Settles O11: what a step can do to the line. -/
theorem eventsConsumedInLineOrder : Obligations.EventsConsumedInLineOrder := fun _ _ => step_next_line

/-! ### R33's invariants, update by update -/

/-- The invariants speak of the block's elements only. -/
theorem State.Inv.of_sameBlock {s t : State} (hs : s.Inv) (h : SameBlock s t) : t.Inv := by
  obtain ⟨hphase, hbuf, hcnt, hskip, hrem, hcause, hout⟩ := h
  constructor
  · rw [← hphase, ← hcnt, ← hbuf]; exact hs.fillCells
  · rw [← hphase, ← hcnt, ← hbuf]; exact hs.checkCells
  · rw [← hphase, ← hskip, ← hrem]; exact hs.discardCount
  · rw [← hphase, ← hout]; exact hs.emitPayload
  · rw [← hphase, ← hcause]; exact hs.causeIffFatal
  · rw [← hskip]; exact hs.skipNotZero
  · rw [← hphase, ← hout]; exact hs.noStaleFrame

theorem SameBlock.wait (s : State) : SameBlock s s.wait := ⟨rfl, rfl, rfl, rfl, rfl, rfl, rfl⟩
theorem SameBlock.consume (s : State) : SameBlock s s.consume := ⟨rfl, rfl, rfl, rfl, rfl, rfl, rfl⟩
theorem SameBlock.receive (f : Feed) (s : State) : SameBlock s (s.receive f) := ⟨rfl, rfl, rfl, rfl, rfl, rfl, rfl⟩
theorem SameBlock.setDecoded (b : ButtonState) (s : State) : SameBlock s (s.setDecoded b) :=
  ⟨rfl, rfl, rfl, rfl, rfl, rfl, rfl⟩

theorem SameBlock.trans {s t u : State} (h : SameBlock s t) (h' : SameBlock t u) : SameBlock s u :=
  ⟨h.phase.trans h'.phase, h.buf.trans h'.buf, h.cnt.trans h'.cnt, h.skip.trans h'.skip, h.rem.trans h'.rem,
    h.cause.trans h'.cause, h.outPayload.trans h'.outPayload⟩

/-- R33.6: outside FATAL no cause is recorded. -/
theorem State.Inv.cause_none {s : State} (hs : s.Inv) (hp : s.phase ≠ .fatal) : s.cause = .none :=
  not_not.1 fun hc => hp (hs.causeIffFatal.1 hc)

theorem State.inv_beginFill {s : State} (hcause : s.cause = .none) (hskip : s.skip ≠ some 0#4)
    (hout : s.outPayload = none) : s.beginFill.Inv :=
  ⟨by simp, by simp, by simp, by simp, by simp [hcause], hskip, fun _ => hout⟩

/-- A discard that has bytes left, and no more than its skip. -/
theorem State.inv_of_discard {s : State} {k : BitVec 4} (hp : s.phase = .discard) (hcause : s.cause = .none)
    (hout : s.outPayload = none) (hk : s.skip = some k) (hpos : 1 ≤ s.rem.toNat) (hle : s.rem.toNat ≤ k.toNat) :
    s.Inv := by
  have hne : k ≠ 0#4 := fun h0 => by simp [h0] at hle; omega
  exact ⟨by simp [hp], by simp [hp], fun _ => ⟨k, hk, hpos, hle⟩, by simp [hp], by simp [hp, hcause],
    by simp [hk, hne], fun _ => hout⟩

/-- One more byte in a buffer that is not full. -/
theorem cnt_succ_toNat {c : BitVec 5} (hc : c.toNat ≤ 15) : (c + 1#5).toNat = c.toNat + 1 := by
  rw [BitVec.toNat_add]
  simp
  omega

/-- R33.2 and R33.3 after one more byte: the cells below the new count are the old ones and the one just written. -/
theorem State.Inv.storeByte {s : State} (hs : s.Inv) (hp : s.phase = .fill) (b : Byte) : (s.storeByte b).Inv := by
  obtain ⟨hcnt, hcells⟩ := hs.fillCells hp
  have hcause : s.cause = .none := hs.cause_none (by simp [hp])
  have hnext : (s.cnt + 1#5).toNat = s.cnt.toNat + 1 := cnt_succ_toNat hcnt
  have hwritten : ∀ i : Fin 16, i.val < s.cnt.toNat + 1 → (memWrite s.buf s.cnt.toNat b)[i].isSome := fun i hi => by
    rw [memWrite_getElem]
    split
    · rfl
    · exact hcells i (by omega)
  by_cases hlast : s.cnt = 15#5
  · refine ⟨by simp [hlast], fun _ => ⟨by simp [hlast], fun i => hwritten i (by simp [hlast])⟩, by simp [hlast],
      by simp [hlast], by simp [hlast, hcause], hs.skipNotZero, fun _ => hs.noStaleFrame (.inl hp)⟩
  · have hlt : s.cnt.toNat ≠ 15 := fun h => hlast (BitVec.eq_of_toNat_eq h)
    refine ⟨fun _ => ?_, by simp [hlast], by simp [hlast], by simp [hlast], by simp [hlast, hcause],
      hs.skipNotZero, fun _ => hs.noStaleFrame (.inl hp)⟩
    rw [State.storeByte_cnt, State.storeByte_buf, hnext]
    exact ⟨by omega, hwritten⟩

theorem State.inv_raiseFatal {s : State} {c : Cause} (hc : c ≠ .none) (hskip : s.skip ≠ some 0#4) :
    (s.raiseFatal c).Inv :=
  ⟨by simp, by simp, by simp, by simp, by simp [hc], hskip, by simp⟩

theorem State.inv_present {s : State} (hcause : s.cause = .none) (hskip : s.skip ≠ some 0#4) (p : Payload) :
    (s.present p).Inv :=
  ⟨by simp, by simp, by simp, by simp, by simp [hcause], hskip, by simp⟩

theorem State.inv_resetBlock (s : State) : s.resetBlock.Inv :=
  ⟨by simp, by simp, by simp, by simp, by simp, by simp, by simp⟩

/-- Settles O30: the reset state is one that RESET leaves. -/
theorem resetStateMeetsInv : Obligations.ResetStateMeetsInv := State.reset.inv_resetBlock

/-- Every effect keeps R33. -/
theorem StepEffect.inv {s t : State} (h : StepEffect s t) (hs : s.Inv) : t.Inv := by
  cases h with
  | wait => exact hs.of_sameBlock (.wait s)
  | storeByte b hp => exact (hs.of_sameBlock (.consume s)).storeByte hp b
  | restartFill d hp =>
    exact State.inv_beginFill (hs.cause_none (by simp [hp])) hs.skipNotZero (hs.noStaleFrame (.inl hp))
  | endDiscard b hp =>
    exact State.inv_beginFill (hs.cause_none (by simp [hp])) hs.skipNotZero (hs.noStaleFrame (.inr (.inr hp)))
  | countDown b hp h0 h1 =>
    obtain ⟨k, hk, hpos, hle⟩ := hs.discardCount hp
    have hne : s.rem.toNat ≠ 1 := fun h => h1 (BitVec.eq_of_toNat_eq h)
    have hone : (s.rem - 1#4).toNat = s.rem.toNat - 1 := BitVec.toNat_sub_of_le (BitVec.le_def.2 hpos)
    refine State.inv_of_discard hp (hs.cause_none (by simp [hp])) (hs.noStaleFrame (.inr (.inr hp))) hk ?_ ?_ <;>
      rw [State.setRem_rem, hone] <;> omega
  | restartDiscard d n hp hm hn =>
    obtain ⟨k, hk, hpos, hle⟩ := hs.discardCount hp
    obtain rfl : k = n := Option.some.inj (hk.symm.trans hn)
    exact State.inv_of_discard hp (hs.cause_none (by simp [hp])) (hs.noStaleFrame (.inr (.inr hp))) hk
      (hpos.trans hle) le_rfl
  | resumeDiscard d hp => exact hs.of_sameBlock (.consume s)
  | raiseFatal d hp => exact State.inv_raiseFatal (by simp) hs.skipNotZero
  | present f hp => exact State.inv_present (s := s.wait) (hs.cause_none (by simp [hp])) hs.skipNotZero _
  | startDiscard f n hp hf hc =>
    exact State.inv_of_discard rfl (hs.cause_none (by simp [hp])) (hs.noStaleFrame (.inr (.inl hp))) rfl
      (classify_skip_bounds hc).1 le_rfl
  | accept hp => exact State.inv_beginFill (hs.cause_none (by simp [hp])) hs.skipNotZero rfl
  | reset => exact State.inv_resetBlock _
  | decode q => exact hs.of_sameBlock ((SameBlock.wait s).trans (.setDecoded _ _))

/-- Settles O31: a step has one of the effects, and each of them keeps R33. -/
theorem everyStepKeepsInv : Obligations.EveryStepKeepsInv := fun _ _ hs h => (step_effect h).inv hs

/-! ### Which step faults, and which is refused -/

/-- Under R33 every row that a phase has completes, but for DECODE on a wrong length. -/
theorem decode_of_exec_fault {i : Instr} {s : State} {e : Fault} (hs : s.Inv) (hi : i.selectedIn s.phase = true)
    (h : exec i s = .fault e) : ∃ q, i = .decode q := by
  cases i with
  | srcByteFill b =>
    have hp : s.phase = .fill := by simpa [Instr.selectedIn] using hi
    cases (exec_srcByteFill b hp (hs.fillCells hp).1).symm.trans h
  | srcByteDiscard b =>
    have hp : s.phase = .discard := by simpa [Instr.selectedIn] using hi
    obtain ⟨-, -, hpos, -⟩ := hs.discardCount hp
    have h0 : s.rem ≠ 0#4 := fun h0 => by simp [h0] at hpos
    by_cases h1 : s.rem = 1#4
    · cases (exec_srcByteDiscard_last b hp h1).symm.trans h
    · cases (exec_srcByteDiscard_more b hp h0 h1).symm.trans h
  | srcTimeoutFill d =>
    have hp : s.phase = .fill := by simpa [Instr.selectedIn] using hi
    cases (exec_srcTimeoutFill d hp).symm.trans h
  | srcTimeoutDiscard d =>
    have hp : s.phase = .discard := by simpa [Instr.selectedIn] using hi
    obtain ⟨k, hk, -, -⟩ := hs.discardCount hp
    cases hm : s.config.discardTimeoutMode with
    | restart => cases (exec_srcTimeoutDiscard_restart d hp hm hk).symm.trans h
    | resume => cases (exec_srcTimeoutDiscard_resume d hp hm).symm.trans h
  | srcIoerr d => cases (exec_srcIoerr d (by simpa [Instr.selectedIn] using hi)).symm.trans h
  | srcReserved d => cases h
  | check =>
    have hp : s.phase = .check := by simpa [Instr.selectedIn] using hi
    cases hf : readFrame s.buf with
    | error e' =>
      obtain ⟨-, j, hj⟩ := readFrame_error hf
      have hsome := (hs.checkCells hp).2 j
      simp [hj] at hsome
    | ok f =>
      cases hc : classify s.config.loneMarkerScan f with
      | aligned => cases (execCheck_aligned hp hf hc).symm.trans h
      | skip n => cases (execCheck_skip hp hf hc).symm.trans h
  | outAccept => cases (exec_outAccept (by simpa [Instr.selectedIn] using hi)).symm.trans h
  | outAcceptIgnored => cases (exec_outAcceptIgnored (by simpa [Instr.selectedIn] using hi)).symm.trans h
  | reset => cases (exec_reset s).symm.trans h
  | decode q => exact ⟨q, rfl⟩

theorem SameBlock.advance (sel : Selector) (s : State) : SameBlock s (s.advance sel) := by
  cases sel with
  | ev w => exact .consume s
  | ack | rst | int | dec => exact .wait s

/-- The step in which the decoder is used on its own (R143). -/
theorem step_of_decode {s : State} {q : List Byte} (h : s.nextOffer = .decode q) : step s = execDecode q s.wait :=
  step_of_label_some (i := .decode q) (State.label_eq_dec_iff.2 h) rfl

/-- Settles O32: no row of a phase faults under R33, and the decoder faults on a wrong length. -/
theorem onlyWrongLengthDecodeFaultsUnderInv : Obligations.OnlyWrongLengthDecodeFaultsUnderInv := fun s e hs => by
  constructor
  · intro h
    obtain ⟨-, hwait⟩ | ⟨i, hl, hp, hrun⟩ := step_runs s
    · cases hwait.symm.trans h
    · have hexec := hrun.symm.trans h
      obtain ⟨q, rfl⟩ := decode_of_exec_fault (hs.of_sameBlock (.advance (encode i) s))
        ((s.advance_phase (encode i)).symm ▸ hp) hexec
      obtain ⟨hlen, he⟩ := execDecode_fault.1 hexec
      exact ⟨q, State.label_eq_dec_iff.1 hl, hlen, he⟩
  · rintro ⟨q, ho, hlen, he⟩
    rw [step_of_decode ho]
    exact execDecode_fault.2 ⟨hlen, he⟩

/-- A word of a kind is that kind's code above some DATA (R70). -/
theorem exists_evWord_of_kind {w : EvWord} {k : EventKind} (hk : evKind w = k) : ∃ d, w = evWord k d :=
  ⟨evData w, by rw [← hk, evWord_kind_data]⟩

/-- Every refusal of a step is the one of SRC_RESERVED (R106). -/
theorem step_refused {s : State} {r : Refusal} (h : step s = .refused r) :
    r = .reservedEventKind ∧ s.nextOffer.resets = false ∧ ∃ w, s.eventOffered = some w ∧ evKind w = .reserved := by
  obtain ⟨w, hl, hk⟩ := label_of_step_refused h
  obtain ⟨hres, hoff⟩ := State.eventOffered_of_label hl
  cases (step_reserved hres hoff hk).symm.trans h
  exact ⟨rfl, hres, w, hoff, hk⟩

/-- Settles O33: a refused step took a reserved word, so it was offered one and no RESET. -/
theorem onlyReservedWordsAreRefused : Obligations.OnlyReservedWordsAreRefused := fun s r h => by
  obtain ⟨hr, hres, w, hoff, hk⟩ := step_refused h
  obtain ⟨d, rfl⟩ := exists_evWord_of_kind hk
  exact ⟨hr, hres, d, hoff⟩

/-- Under R33 a step of the block goes on, unless it is offered a reserved word. -/
theorem exists_step_next {s : State} (hs : s.Inv) (hblock : s.nextOffer.isBlockStep = true)
    (hline : ∀ w ∈ s.line, evKind w ≠ .reserved) : ∃ t, step s = .next t := by
  cases h : step s with
  | next t => exact ⟨t, rfl⟩
  | fault e =>
    obtain ⟨q, ho, -, -⟩ := (onlyWrongLengthDecodeFaultsUnderInv s e hs).1 h
    simp [ho, Offer.isBlockStep] at hblock
  | refused r =>
    obtain ⟨-, -, w, hoff, hk⟩ := step_refused h
    exact absurd hk (hline w (List.mem_of_head? (State.line_head?_of_eventOffered hoff)))

/-! ### FATAL (R173, R174, R179) -/

/-- Settles O24: in FATAL an operation has no effect, is refused, or is the decoder's. -/
theorem noSecondCauseInFatal : Obligations.NoSecondCauseInFatal := fun i s t hp hi h => by
  have hclosed := exec_event_of_closed (s := s) (.inr (.inr hp))
  have hkeep : Host.Outcome.next (φ := Fault) (ρ := Refusal) s = .next t → t.cause = s.cause ∧ t.phase = .fatal := by
    rintro ⟨⟩
    exact ⟨rfl, hp⟩
  cases i with
  | srcByteFill b =>
    obtain ⟨hs, -⟩ := hclosed b
    exact hkeep (hs.symm.trans h)
  | srcByteDiscard b =>
    obtain ⟨-, hs, -⟩ := hclosed b
    exact hkeep (hs.symm.trans h)
  | srcTimeoutFill d =>
    obtain ⟨-, -, hs, -⟩ := hclosed d
    exact hkeep (hs.symm.trans h)
  | srcTimeoutDiscard d =>
    obtain ⟨-, -, -, hs, -⟩ := hclosed d
    exact hkeep (hs.symm.trans h)
  | srcIoerr d =>
    obtain ⟨-, -, -, -, hs⟩ := hclosed d
    exact hkeep (hs.symm.trans h)
  | srcReserved d => cases h
  | check => exact hkeep ((exec_check_of_ne_check (by simp [hp])).symm.trans h)
  | outAccept => cases (exec_outAccept_of_ne_emit (by simp [hp])).symm.trans h
  | outAcceptIgnored => exact hkeep ((exec_outAcceptIgnored (by simp [hp])).symm.trans h)
  | reset => exact absurd rfl hi
  | decode q =>
    obtain ⟨-, rfl⟩ := execDecode_next h
    exact ⟨rfl, hp⟩

/-- Settles O34: of the effects a step can have only a wait, the decoder's and RESET's have no guard that FATAL
fails. -/
theorem onlyResetLeavesFatal : Obligations.OnlyResetLeavesFatal := fun s hp => by
  refine ⟨by simp [State.srcReady, hp], by simp [State.outValid, hp], fun t hres h => ?_, fun hres => ?_⟩
  · cases step_effect h with
    | wait => exact .wait s
    | decode q => exact (SameBlock.wait s).trans (.setDecoded _ _)
    | reset hr => simp [hr] at hres
    | storeByte _ hq | restartFill _ hq | endDiscard _ hq | countDown _ hq | restartDiscard _ _ hq
    | resumeDiscard _ hq | raiseFatal _ hq | present _ hq | startDiscard _ _ hq | accept hq => simp [hp] at hq
  · exact ⟨_, step_of_resets hres, rfl⟩

/-- Settles O35: one effect enters FATAL, with its own cause, and none records the other cause. -/
theorem fatalIsEnteredByIoErrorOnly : Obligations.FatalIsEnteredByIoErrorOnly := fun s t h => by
  cases step_effect h with
  | raiseFatal d hp hl => exact ⟨fun _ _ => ⟨rfl, hp, d, hl⟩, by simp⟩
  | wait | countDown | restartDiscard | resumeDiscard | decode => exact ⟨fun hne ht => absurd ht hne, id⟩
  | storeByte b =>
    have hopen : (s.consume.storeByte b).phase ≠ .fatal := by by_cases hlast : s.cnt = 15#5 <;> simp [hlast]
    exact ⟨fun _ ht => absurd ht hopen, id⟩
  | restartFill | endDiscard | present | startDiscard | accept => exact ⟨fun _ ht => absurd ht (by simp), id⟩
  | reset => exact ⟨fun _ ht => absurd ht (by simp), by simp⟩

/-! ### Phase, buffer, emissions and parameters -/

/-- Settles O36: the phase after each effect. -/
theorem phaseTransitions : Obligations.PhaseTransitions := fun s t hblock hres h => by
  cases step_effect h with
  | wait | countDown | restartDiscard | resumeDiscard => exact .inl rfl
  | storeByte b hp => by_cases hlast : s.cnt = 15#5 <;> simp [hp, hlast]
  | restartFill _ hp | endDiscard _ hp | present _ hp | startDiscard _ _ hp | accept hp => simp [hp]
  | raiseFatal d hp => rcases hp with hp | hp <;> simp [hp]
  | reset hr => simp [hr] at hres
  | decode q ho => simp [ho, Offer.isBlockStep] at hblock

/-- Settles O37: one effect but RESET's writes the buffer, and it writes one cell. -/
theorem bufWrittenOnlyByFillBytes : Obligations.BufWrittenOnlyByFillBytes := fun s t h hres => by
  cases step_effect h with
  | storeByte b hp hc hl =>
    exact .inr ⟨hp, b, hl, fun i => (memWrite_getElem s.buf _ b i).trans (if_congr eq_comm rfl rfl)⟩
  | reset hr => simp [hr] at hres
  | _ => exact .inl rfl

/-- Settles O38: one effect emits, that of CHECK on an aligned frame. -/
theorem emissionsComeFromAlignedBuffers : Obligations.EmissionsComeFromAlignedBuffers := fun s t h => by
  cases step_effect h with
  | present f hp hf hc =>
    obtain ⟨h0, h1⟩ := (isAligned_iff f).1 ((classify_eq_aligned_iff _ f).1 hc)
    exact .inr ⟨f, payloadOf f, hp, readFrame_ok_iff_cells.1 hf, h0, h1, payloadOf_getElem f, rfl, rfl, rfl⟩
  | _ => exact .inl rfl

/-- Settles O39: no effect writes a parameter. -/
theorem parametersNeverChange : Obligations.ParametersNeverChange := fun s t h => by
  cases step_effect h <;> rfl

end Sys2Proof.Machine
end

section
/-! PROOFS. Bytes of an earlier fill never matter (10_state.md R34, 92_eei_decisions.md D13): each operation keeps the
relation `SameUpToStaleBytes` in a phase that has it, so each step does. -/

namespace Sys2Proof.Machine

/-- Outcomes of the same kind: with the same reason, or with next states that differ in stale bytes only. -/
inductive SameOutcome : Host.Outcome State Fault Refusal → Host.Outcome State Fault Refusal → Prop
  | next {s t : State} (h : SameUpToStaleBytes s t) : SameOutcome (.next s) (.next t)
  | fault (e : Fault) : SameOutcome (.fault e) (.fault e)
  | refused (r : Refusal) : SameOutcome (.refused r) (.refused r)

/-! ### The relation, update by update -/

theorem SameUpToStaleBytes.refl (s : State) : SameUpToStaleBytes s s := ⟨rfl, fun _ _ _ => rfl, fun _ => rfl⟩

/-- The two states are one but for the buffer. -/
theorem SameUpToStaleBytes.exists_buf {s t : State} (h : SameUpToStaleBytes s t) :
    ∃ buf, t = { s with buf := buf } := ⟨t.buf, h.rest.symm⟩

/-- Where the current fill has written nothing and no CHECK is due, every cell is stale. -/
theorem SameUpToStaleBytes.of_all_stale {s : State} (hcheck : s.phase ≠ .check) (hfill : s.phase = .fill → s.cnt = 0#5)
    (buf : FrameBuffer) : SameUpToStaleBytes s { s with buf := buf } :=
  ⟨rfl, fun hp i hi => by simp [hfill hp] at hi, fun hp => absurd hp hcheck⟩

/-- In CHECK no cell is stale. -/
theorem SameUpToStaleBytes.eq_of_check {s t : State} (h : SameUpToStaleBytes s t) (hp : s.phase = .check) : s = t := by
  have hrest := h.rest
  rwa [← h.full hp] at hrest

theorem SameUpToStaleBytes.advance {s t : State} (h : SameUpToStaleBytes s t) (sel : Selector) :
    SameUpToStaleBytes (s.advance sel) (t.advance sel) := by
  obtain ⟨buf, rfl⟩ := h.exists_buf
  cases sel with
  | ev | ack | rst | int | dec => exact ⟨rfl, h.filled, h.full⟩

theorem SameUpToStaleBytes.setDecoded {s t : State} (h : SameUpToStaleBytes s t) (b : ButtonState) :
    SameUpToStaleBytes (s.setDecoded b) (t.setDecoded b) := by
  obtain ⟨buf, rfl⟩ := h.exists_buf
  exact ⟨rfl, h.filled, h.full⟩

/-- The byte is written to the same cell of both, which is stale in neither from then on. -/
theorem SameUpToStaleBytes.storeByte {s t : State} (h : SameUpToStaleBytes s t) (hp : s.phase = .fill) (b : Byte) :
    SameUpToStaleBytes (s.storeByte b) (t.storeByte b) := by
  obtain ⟨buf, rfl⟩ := h.exists_buf
  have hcells : ∀ i : Fin 16, i.val < s.cnt.toNat + 1 →
      (memWrite s.buf s.cnt.toNat b)[i] = (memWrite buf s.cnt.toNat b)[i] := fun i hi => by
    rw [memWrite_getElem, memWrite_getElem]
    split
    · rfl
    · exact h.filled hp i (by omega)
  refine ⟨rfl, fun _ i hi => hcells i ?_, fun hcheck => ?_⟩
  · have hnext : (s.cnt + 1#5).toNat ≤ s.cnt.toNat + 1 := by
      rw [BitVec.toNat_add]
      exact Nat.mod_le _ _
    exact hi.trans_le hnext
  · have hlast : s.cnt = 15#5 := by
      by_contra hne
      simp [hne] at hcheck
    exact Vector.ext fun j hj => hcells ⟨j, hj⟩ (by simp [hlast]; omega)

/-! ### The operations and the step -/

section
variable {s t : State} (h : SameUpToStaleBytes s t)
include h

theorem SameUpToStaleBytes.config_eq : t.config = s.config := by rw [← h.rest]
theorem SameUpToStaleBytes.phase_eq : t.phase = s.phase := by rw [← h.rest]
theorem SameUpToStaleBytes.cnt_eq : t.cnt = s.cnt := by rw [← h.rest]
theorem SameUpToStaleBytes.skip_eq : t.skip = s.skip := by rw [← h.rest]
theorem SameUpToStaleBytes.rem_eq : t.rem = s.rem := by rw [← h.rest]

/-- The label does not depend on the buffer, so both states take the same one. -/
theorem SameUpToStaleBytes.label_eq : t.label = s.label := by
  rw [← h.rest]
  rfl

end

/-- Each operation, in a phase that has it, answers alike from both states. -/
theorem SameUpToStaleBytes.exec {i : Instr} {s t : State} (h : SameUpToStaleBytes s t)
    (hi : i.selectedIn s.phase = true) : SameOutcome (exec i s) (exec i t) := by
  obtain ⟨buf, ht⟩ := h.exists_buf
  cases i with
  | srcByteFill b =>
    have hp : s.phase = .fill := by simpa [Instr.selectedIn] using hi
    simp only [Machine.exec, execSrcByteFill, hp, h.phase_eq, h.cnt_eq]
    split_ifs
    · exact .next (h.storeByte hp b)
    · exact .fault _
  | srcByteDiscard b =>
    have hp : s.phase = .discard := by simpa [Instr.selectedIn] using hi
    simp only [Machine.exec, execSrcByteDiscard, hp, h.phase_eq, h.rem_eq]
    subst ht
    split_ifs
    · exact .fault _
    · exact .next (.of_all_stale (by simp) (by simp) buf)
    · exact .next (.of_all_stale (by simp [hp]) (by simp [hp]) buf)
  | srcTimeoutFill d =>
    have hp : s.phase = .fill := by simpa [Instr.selectedIn] using hi
    rw [exec_srcTimeoutFill d hp, exec_srcTimeoutFill d (h.phase_eq.trans hp), ht]
    exact .next (.of_all_stale (by simp) (by simp) buf)
  | srcTimeoutDiscard d =>
    have hp : s.phase = .discard := by simpa [Instr.selectedIn] using hi
    simp only [Machine.exec, execSrcTimeoutDiscard, hp, h.phase_eq, h.config_eq, h.skip_eq]
    subst ht
    cases s.config.discardTimeoutMode with
    | resume => exact .next h
    | restart =>
      cases readValue s.skip with
      | ok n => exact .next (.of_all_stale (by simp [hp]) (by simp [hp]) buf)
      | error e => exact .fault e
  | srcIoerr d =>
    have hp : s.phase = .fill ∨ s.phase = .discard := by simpa [Instr.selectedIn] using hi
    rw [exec_srcIoerr d hp, exec_srcIoerr d (h.phase_eq.symm ▸ hp), ht]
    exact .next (.of_all_stale (by simp) (by simp) buf)
  | srcReserved d => exact .refused _
  | check =>
    rw [← h.eq_of_check (by simpa [Instr.selectedIn] using hi)]
    cases Machine.exec .check s with
    | next u => exact .next (.refl u)
    | fault e => exact .fault e
    | refused r => exact .refused r
  | outAccept =>
    have hp : s.phase = .emit := by simpa [Instr.selectedIn] using hi
    rw [exec_outAccept hp, exec_outAccept (h.phase_eq.trans hp), ht]
    exact .next (.of_all_stale (by simp) (by simp) buf)
  | outAcceptIgnored =>
    have hp : s.phase ≠ .emit := by simpa [Instr.selectedIn] using hi
    rw [exec_outAcceptIgnored hp, exec_outAcceptIgnored (h.phase_eq.symm ▸ hp)]
    exact .next h
  | reset =>
    rw [exec_reset, exec_reset, ht]
    exact .next (.refl _)
  | decode q =>
    simp only [Machine.exec, execDecode]
    cases decodePayload q with
    | ok b => exact .next (h.setDecoded b)
    | error e => exact .fault e

theorem SameUpToStaleBytes.step {s t : State} (h : SameUpToStaleBytes s t) : SameOutcome (step s) (step t) := by
  obtain ⟨hl, hs⟩ | ⟨i, hl, hp, hs⟩ := step_runs s
  · rw [hs, step_of_label_none (h.label_eq.trans hl)]
    exact .next (h.advance .int)
  · rw [hs, step_of_label_some (h.label_eq.trans hl) (decodeOp_encode (h.phase_eq.symm ▸ hp))]
    exact (h.advance (encode i)).exec ((s.advance_phase _).symm ▸ hp)

/-- Settles O40: the two steps take the same label, and its operation keeps the relation. -/
theorem staleBytesNeverMatter : Obligations.StaleBytesNeverMatter := fun s t h => by
  have hstep := h.step
  revert hstep
  generalize step s = o, step t = o'
  rintro (hnext | e | r)
  · exact hnext
  · rfl
  · rfl

end Sys2Proof.Machine
end

section
/-! PROOFS. The payload decoder (42_output_decode.md): its outputs (R145), its contract (R175), its inverse (R148) and
the two 112-bit buses (30_encoding.md R75 to R77). Fields are compared bit by bit. -/

namespace Sys2Proof.Machine

/-! ### The outputs and the contract (R143, R145, R175) -/

/-- Outside EMIT the consumer port holds no value (R28). -/
theorem State.outputs_of_ne_emit {s : State} (hp : s.phase ≠ .emit) : s.outputs = .error .readOfNone := by
  rw [State.outputs, State.outputPayload, if_neg fun h => hp (s.outValid_iff.1 h)]

/-- Settles O20: in EMIT the payload's ButtonState, elsewhere no value. -/
theorem outputsAreDecodedPayloadInEmitOnly : Obligations.OutputsAreDecodedPayloadInEmitOnly := fun _ =>
  ⟨fun p hp hout => ⟨buttonState p.toList, decodePayload_payload p,
    (State.outputs_of_emit hp hout).trans (decodePayload_payload p)⟩, State.outputs_of_ne_emit⟩

theorem exec_decode {q : List Byte} {b : ButtonState} (h : decodePayload q = .ok b) (s : State) :
    exec (.decode q) s = .next (s.setDecoded b) := by
  rw [exec, execDecode, h]

/-- Settles O22: on 14 bytes the decoder's value goes to the return channel. -/
theorem decodeReturnsItsValueAndWritesNoBlockState : Obligations.DecodeReturnsItsValueAndWritesNoBlockState :=
  fun s q hq =>
    have hb : decodePayload q = .ok (buttonState q) := decodePayload_ok.2 ⟨hq, rfl⟩
    ⟨buttonState q, hb, exec_decode hb s⟩

theorem decodePayload_wrongLength {q : List Byte} (h : q.length ≠ payloadLen) :
    decodePayload q = .error (.contractViolation q.length) := by
  rw [decodePayload, if_neg h]

/-- Settles O23: the fault of another length, on its own and in a step, and that a payload has no other length. -/
theorem wrongLengthIsContractViolation : Obligations.WrongLengthIsContractViolation := by
  refine ⟨fun q hq => ⟨decodePayload_wrongLength hq, fun s => execDecode_fault.2 ⟨hq, rfl⟩,
    decodeInStep_wrongLength hq⟩, fun p e done s => ⟨?_, decodeInStep_payload p done s⟩⟩
  simp [decodePayload_payload p]

/-! ### Numbers in bytes, bit by bit -/

/-- R75: bit `i` of the number is bit `i mod 8` of byte `i div 8`. -/
theorem natOfBytes_testBit (q : List Byte) (i : Nat) :
    (natOfBytes q).testBit i = (byteAt q (i / 8)).getLsbD (i % 8) := by
  induction q generalizing i with
  | nil => simp [natOfBytes, byteAt]
  | cons b t ih =>
    have hsplit : natOfBytes (b :: t) = 2 ^ 8 * natOfBytes t + b.toNat := by
      rw [natOfBytes]
      omega
    rw [hsplit, Nat.testBit_two_pow_mul_add _ b.isLt]
    by_cases hi : i < 8
    · rw [if_pos hi, Nat.div_eq_of_lt hi, Nat.mod_eq_of_lt hi]
      rfl
    · have hdiv : i / 8 = (i - 8) / 8 + 1 := by omega
      have hmod : i % 8 = (i - 8) % 8 := by omega
      rw [if_neg hi, ih, hdiv, hmod]
      rfl

theorem payloadBus_getLsbD (q : Payload) {i : Nat} (hi : i < 112) :
    (payloadBus q).getLsbD i = (byteAt q.toList (i / 8)).getLsbD (i % 8) := by
  rw [payloadBus, BitVec.getLsbD_ofNat, decide_eq_true hi, Bool.true_and, natOfBytes_testBit]

/-- R146: an axis is the two-byte number that begins at byte 6 + 2k. -/
theorem axisSample_getLsbD (q : List Byte) (k : Nat) {i : Nat} (hi : i < 16) :
    (axisSample q k).getLsbD i = (byteAt q (6 + 2 * k + i / 8)).getLsbD (i % 8) := by
  have hsplit : (axisSample q k).toNat =
      2 ^ 8 * (byteAt q (7 + 2 * k)).toNat + (byteAt q (6 + 2 * k)).toNat := by
    rw [axisSample_toNat]
    omega
  rw [BitVec.getLsbD, hsplit, Nat.testBit_two_pow_mul_add _ (byteAt q (6 + 2 * k)).isLt]
  by_cases hlow : i < 8
  · rw [if_pos hlow, Nat.div_eq_of_lt hlow, Nat.mod_eq_of_lt hlow]
    rfl
  · have hdiv : 6 + 2 * k + i / 8 = 7 + 2 * k := by omega
    have hmod : i % 8 = i - 8 := by omega
    rw [if_neg hlow, hdiv, hmod]
    rfl

/-! ### The encoder (R148) -/

theorem buttonByte_getLsbD (w : Buttons) (j : Nat) {i : Nat} (hi : i < 8) :
    (buttonByte w j).getLsbD i = w.getLsbD (8 * j + i) := by
  rw [buttonByte, BitVec.getLsbD_extractLsb', decide_eq_true hi, Bool.true_and]

theorem axisLow_getLsbD (a : Axis) {i : Nat} (hi : i < 8) : (axisLow a).getLsbD i = a.getLsbD i := by
  rw [axisLow, BitVec.getLsbD_extractLsb', decide_eq_true hi, Bool.true_and, Nat.zero_add]

theorem axisHigh_getLsbD (a : Axis) {i : Nat} (hi : i < 8) : (axisHigh a).getLsbD i = a.getLsbD (8 + i) := by
  rw [axisHigh, BitVec.getLsbD_extractLsb', decide_eq_true hi, Bool.true_and]

theorem byteAt_encodePayload_button (b : ButtonState) (j : Fin 6) :
    byteAt (encodePayload b).toList j = buttonByte b.pressed j := by
  fin_cases j <;> rfl

theorem byteAt_encodePayload_axisLow (b : ButtonState) (k : Fin 4) :
    byteAt (encodePayload b).toList (6 + 2 * k) = axisLow b.axis[k] := by
  fin_cases k <;> rfl

theorem byteAt_encodePayload_axisHigh (b : ButtonState) (k : Fin 4) :
    byteAt (encodePayload b).toList (7 + 2 * k) = axisHigh b.axis[k] := by
  fin_cases k <;> rfl

/-- A ButtonState is its buttons and its axes. -/
theorem ButtonState.ext_fields {a b : ButtonState} (hp : a.pressed = b.pressed)
    (ha : ∀ k : Fin 4, a.axis[k] = b.axis[k]) : a = b := by
  obtain ⟨pa, xa⟩ := a
  obtain ⟨pb, xb⟩ := b
  rw [ButtonState.mk.injEq]
  exact ⟨hp, Vector.ext fun k hk => ha ⟨k, hk⟩⟩

theorem buttonState_encodePayload (b : ButtonState) : buttonState (encodePayload b).toList = b := by
  apply ButtonState.ext_fields
  · apply BitVec.eq_of_getLsbD_eq
    intro i hi
    rw [buttonState_pressed_getLsbD _ hi, buttonBit, byteAt_encodePayload_button b ⟨i / 8, by omega⟩,
      buttonByte_getLsbD _ _ (Nat.mod_lt i (by decide)), Nat.div_add_mod]
  · intro k
    apply BitVec.eq_of_getLsbD_eq
    intro i hi
    rw [buttonState_axis_getElem, axisSample_getLsbD _ _ hi]
    by_cases hlow : i < 8
    · rw [Nat.div_eq_of_lt hlow, Nat.mod_eq_of_lt hlow, Nat.add_zero, byteAt_encodePayload_axisLow,
        axisLow_getLsbD _ hlow]
    · have hdiv : 6 + 2 * k.val + i / 8 = 7 + 2 * k.val := by omega
      rw [hdiv, byteAt_encodePayload_axisHigh, axisHigh_getLsbD _ (Nat.mod_lt i (by decide)),
        show 8 + i % 8 = i by omega]

theorem buttonByte_buttonState (q : List Byte) {j : Nat} (hj : j < 6) :
    buttonByte (buttonState q).pressed j = byteAt q j := by
  apply BitVec.eq_of_getLsbD_eq
  intro i hi
  rw [buttonByte_getLsbD _ _ hi, buttonState_pressed_getLsbD _ (by omega), buttonBit,
    show (8 * j + i) / 8 = j by omega, show (8 * j + i) % 8 = i by omega]

theorem axisLow_axisSample (q : List Byte) (k : Nat) : axisLow (axisSample q k) = byteAt q (6 + 2 * k) := by
  apply BitVec.eq_of_getLsbD_eq
  intro i hi
  rw [axisLow_getLsbD _ hi, axisSample_getLsbD _ _ (by omega), Nat.div_eq_of_lt hi, Nat.mod_eq_of_lt hi, Nat.add_zero]

theorem axisHigh_axisSample (q : List Byte) (k : Nat) : axisHigh (axisSample q k) = byteAt q (7 + 2 * k) := by
  apply BitVec.eq_of_getLsbD_eq
  intro i hi
  rw [axisHigh_getLsbD _ hi, axisSample_getLsbD _ _ (by omega), show 6 + 2 * k + (8 + i) / 8 = 7 + 2 * k by omega,
    show (8 + i) % 8 = i by omega]

/-- Bytes 0 to 5 are the buttons', and then each axis has two. -/
theorem encodePayload_buttonState (q : Payload) : encodePayload (buttonState q.toList) = q := by
  refine Vector.ext fun j hj => ?_
  rw [← byteAt_toList _ hj, ← byteAt_toList _ hj]
  by_cases hbutton : j < 6
  · exact (byteAt_encodePayload_button _ ⟨j, hbutton⟩).trans (buttonByte_buttonState _ hbutton)
  · obtain ⟨k, rfl | rfl⟩ : ∃ k : Fin 4, j = 6 + 2 * k.val ∨ j = 7 + 2 * k.val :=
      ⟨⟨(j - 6) / 2, by omega⟩, by simp; omega⟩
    · rw [byteAt_encodePayload_axisLow, buttonState_axis_getElem, axisLow_axisSample]
    · rw [byteAt_encodePayload_axisHigh, buttonState_axis_getElem, axisHigh_axisSample]

/-- Settles O25: the two compositions, each on a sequence of 14 bytes. -/
theorem decodeAndEncodePayloadAreInverse : Obligations.DecodeAndEncodePayloadAreInverse := by
  refine ⟨fun b => ?_, fun q b hb => ?_⟩
  · rw [decodePayload_payload, buttonState_encodePayload]
  · obtain ⟨-, rfl⟩ := decodePayload_ok.1 hb
    exact encodePayload_buttonState q

/-! ### The buses (R75 to R77) -/

/-- A slice of the bus is read bit by bit. -/
theorem payloadBus_byte (q : Payload) (j : Fin 14) : (payloadBus q).extractLsb' (8 * j.val) 8 = q[j] := by
  apply BitVec.eq_of_getLsbD_eq
  intro i hi
  rw [BitVec.getLsbD_extractLsb', decide_eq_true hi, Bool.true_and, payloadBus_getLsbD q (by omega),
    show (8 * j.val + i) / 8 = j.val by omega, show (8 * j.val + i) % 8 = i by omega, byteAt_toList q j.isLt]
  rfl

theorem pressed_eq_payloadBus (q : Payload) {i : Nat} (hi : i < 48) :
    (buttonState q.toList).pressed.getLsbD i = (payloadBus q).getLsbD i := by
  rw [buttonState_pressed_getLsbD _ hi, buttonBit, payloadBus_getLsbD q (by omega)]

theorem axis_eq_payloadBus (q : Payload) (k : Fin 4) :
    (buttonState q.toList).axis[k] = (payloadBus q).extractLsb' (48 + 16 * k.val) 16 := by
  apply BitVec.eq_of_getLsbD_eq
  intro i hi
  rw [BitVec.getLsbD_extractLsb', decide_eq_true hi, Bool.true_and, buttonState_axis_getElem,
    axisSample_getLsbD _ _ hi, payloadBus_getLsbD q (by omega),
    show (48 + 16 * k.val + i) / 8 = 6 + 2 * k.val + i / 8 by omega,
    show (48 + 16 * k.val + i) % 8 = i % 8 by omega]

theorem buttonBus_pressed (b : ButtonState) : (buttonBus b).extractLsb' 0 48 = b.pressed :=
  BitVec.extractLsb'_append_eq_right

/-- The 112 bits of the ButtonState bus as the fields appended, the width written as the sum of theirs. -/
theorem extractLsb'_buttonBus (b : ButtonState) (start len : Nat) :
    (buttonBus b).extractLsb' start len =
      (b.axis[3] ++ b.axis[2] ++ b.axis[1] ++ b.axis[0] ++ b.pressed).extractLsb' start len := rfl

theorem buttonBus_axis0 (b : ButtonState) : (buttonBus b).extractLsb' 48 16 = b.axis[0] := by
  simp (disch := decide) only [extractLsb'_buttonBus, BitVec.extractLsb'_append_eq_of_le, Nat.reduceSub,
    BitVec.extractLsb'_append_eq_right]

theorem buttonBus_axis1 (b : ButtonState) : (buttonBus b).extractLsb' 64 16 = b.axis[1] := by
  simp (disch := decide) only [extractLsb'_buttonBus, BitVec.extractLsb'_append_eq_of_le, Nat.reduceSub,
    BitVec.extractLsb'_append_eq_right]

theorem buttonBus_axis2 (b : ButtonState) : (buttonBus b).extractLsb' 80 16 = b.axis[2] := by
  simp (disch := decide) only [extractLsb'_buttonBus, BitVec.extractLsb'_append_eq_of_le, Nat.reduceSub,
    BitVec.extractLsb'_append_eq_right]

theorem buttonBus_axis3 (b : ButtonState) : (buttonBus b).extractLsb' 96 16 = b.axis[3] := by
  simp (disch := decide) only [extractLsb'_buttonBus, BitVec.extractLsb'_append_eq_of_le, Nat.reduceSub,
    BitVec.extractLsb'_eq_self]

/-- R77: axis k sits at `B[63+16k:48+16k]`. -/
theorem buttonBus_axis (b : ButtonState) (k : Fin 4) :
    (buttonBus b).extractLsb' (48 + 16 * k.val) 16 = b.axis[k] := by
  fin_cases k
  exacts [buttonBus_axis0 b, buttonBus_axis1 b, buttonBus_axis2 b, buttonBus_axis3 b]

/-- R77: the buses agree on every button and on every axis, and there is no other bit. -/
theorem buttonBus_eq_payloadBus (q : Payload) : buttonBus (buttonState q.toList) = payloadBus q := by
  apply BitVec.eq_of_getLsbD_eq
  intro i hi
  by_cases hbutton : i < 48
  · have hbit := congrArg (·.getLsbD i) (buttonBus_pressed (buttonState q.toList))
    simpa only [BitVec.getLsbD_extractLsb', hbutton, decide_true, Bool.true_and, Nat.zero_add,
      pressed_eq_payloadBus q hbutton] using hbit
  · obtain ⟨k, j, hj, rfl⟩ : ∃ (k : Fin 4) (j : Nat), j < 16 ∧ i = 48 + 16 * k.val + j :=
      ⟨⟨(i - 48) / 16, by omega⟩, (i - 48) % 16, by omega, by simp; omega⟩
    have hbit := congrArg (·.getLsbD j)
      ((buttonBus_axis (buttonState q.toList) k).trans (axis_eq_payloadBus q k))
    simpa [hj] using hbit

/-- Settles O26: the payload bus in bytes, in buttons and in axes, and the ButtonState bus beside it. -/
theorem busesCarryTheFields : Obligations.BusesCarryTheFields := fun q b hb => by
  obtain ⟨-, rfl⟩ := decodePayload_ok.1 hb
  exact ⟨payloadBus_byte q, fun i => pressed_eq_payloadBus q i.isLt, axis_eq_payloadBus q, buttonBus_pressed _,
    buttonBus_axis _, buttonBus_eq_payloadBus q⟩

end Sys2Proof.Machine
end

section
/-! PROOFS. A step that offers a word of the line, and the runs that such steps make up: a fill, an attempt and a
discard (40_source_events.md R100, R101; 41_frame_check.md R120, R130). The neighbours are idle in them. -/

namespace Sys2Proof.Machine

/-! ### One step with nothing held back -/

theorem head?_orLoop {α : Type} (now loop : List α) : (orLoop now loop).head? = (now ++ loop).head? := by
  cases now <;> rfl

/-- Without RESET, without a hold and without a reserved word, the phase selects among the line and the ACK. -/
theorem State.label_of_nextOffer {s : State} {ack : Bool} (ho : s.nextOffer = .ports false ack false)
    (hw : ∀ w ∈ s.line.head?, evKind w ≠ .reserved) : s.label = selectByPhase s.phase ack s.line.head? := by
  rw [State.label, ho]
  cases hline : s.line with
  | nil => exact arbitrate_of_no_event (.inl rfl) s.phase ack
  | cons w l => exact arbitrate_of_unreserved (hw w (by simp [hline])) s.phase ack l

/-- A block that is ready takes the BYTE at the head of the line. -/
theorem State.label_of_byte {s : State} {b : Byte} {l : List EvWord} (hp : s.phase = .fill ∨ s.phase = .discard)
    (ho : s.nextOffer = Offer.idle) (hs : s.source = evWord .byte b :: l) :
    s.label = some (.ev (evWord .byte b)) := by
  have hline := State.line_of_source hs
  rw [State.label_of_nextOffer ho (by simp [hline]), hline]
  exact selectByPhase_event hp false _

theorem step_fill_byte {s : State} {b : Byte} {l : List EvWord} (hp : s.phase = .fill) (hc : s.cnt.toNat ≤ 15)
    (ho : s.nextOffer = Offer.idle) (hs : s.source = evWord .byte b :: l) :
    step s = .next (s.consume.storeByte b) := by
  rw [step_of_label_some (i := .srcByteFill b) (State.label_of_byte (.inl hp) ho hs)
    (hp ▸ Laws.HomePhase.srcByteFill b)]
  exact exec_srcByteFill b hp hc

theorem step_discard_byte {s : State} {b : Byte} {l : List EvWord} (hp : s.phase = .discard)
    (ho : s.nextOffer = Offer.idle) (hs : s.source = evWord .byte b :: l) :
    step s = exec (.srcByteDiscard b) s.consume :=
  step_of_label_some (State.label_of_byte (.inr hp) ho hs) (hp ▸ Laws.HomePhase.srcByteDiscard b)

theorem step_check_idle {s : State} (hp : s.phase = .check) (ho : s.nextOffer = Offer.idle)
    (hw : ∀ w ∈ s.line.head?, evKind w ≠ .reserved) : step s = exec .check s.wait := by
  have hl : s.label = some .int := by rw [State.label_of_nextOffer ho hw, hp, selectByPhase_check]
  exact step_of_label_some hl (hp ▸ Laws.HomePhase.check)

theorem step_accept {s : State} (hp : s.phase = .emit) (ho : s.nextOffer = .ports false true false)
    (hw : ∀ w ∈ s.line.head?, evKind w ≠ .reserved) : step s = .next s.wait.dropPayload.beginFill := by
  have hl : s.label = some (.ack 1#1) := by
    rw [State.label_of_nextOffer ho hw, hp, selectByPhase_closed (.inl rfl), if_pos rfl]
  exact (step_of_label_some hl (hp ▸ Laws.HomePhase.outAccept)).trans (exec_outAccept hp)

/-! ### Idle neighbours for several steps -/

/-- In each of the next `k` steps the neighbours' entry is idle, where `now` and then `loop` are their entries. -/
def IdleFor (loop : List Offer) : Nat → List Offer → Prop
  | 0, _       => True
  | k + 1, now => (orLoop now loop).headD Offer.idle = Offer.idle ∧ IdleFor loop k (orLoop now loop).tail

/-- The entries that `k` steps leave of `now`. -/
def offersAfter (loop : List Offer) : Nat → List Offer → List Offer
  | 0, now     => now
  | k + 1, now => offersAfter loop k (orLoop now loop).tail

theorem idleFor_add {loop now : List Offer} {j k : Nat} :
    IdleFor loop (j + k) now ↔ IdleFor loop j now ∧ IdleFor loop k (offersAfter loop j now) := by
  induction j generalizing now with
  | zero => simp [IdleFor, offersAfter]
  | succ j ih => rw [Nat.add_right_comm, IdleFor, IdleFor, ih, offersAfter, and_assoc]

theorem offersAfter_add (loop now : List Offer) (j k : Nat) :
    offersAfter loop (j + k) now = offersAfter loop k (offersAfter loop j now) := by
  induction j generalizing now with
  | zero => rw [Nat.zero_add, offersAfter]
  | succ j ih => rw [Nat.add_right_comm, offersAfter, offersAfter, ih]

/-- Neighbours that have no entry are idle for ever. -/
theorem idleFor_nil (k : Nat) : IdleFor [] k [] := by
  induction k with
  | zero => trivial
  | succ k ih => exact ⟨rfl, ih⟩

@[simp] theorem offersAfter_nil (k : Nat) : offersAfter [] k [] = [] := by
  induction k with
  | zero => rfl
  | succ k ih => exact ih

/-! ### A fill (R100) -/

/-- The phase of a fill that has `c` bytes: CHECK is due once the buffer is full. -/
def fillPhase (c : BitVec 5) : Phase := if c = 16#5 then .check else .fill

/-- The bytes written from index `i` on. -/
def writeBytes (buf : FrameBuffer) : Nat → List Byte → FrameBuffer
  | _, []      => buf
  | i, b :: bs => writeBytes (memWrite buf i b) (i + 1) bs

theorem writeBytes_getElem_below {buf : FrameBuffer} {bs : List Byte} {i : Nat} {j : Fin 16} (hj : j.val < i) :
    (writeBytes buf i bs)[j] = buf[j] := by
  induction bs generalizing buf i with
  | nil => rfl
  | cons b bs ih => rw [writeBytes, ih (by omega), memWrite_getElem, if_neg (by omega)]

theorem writeBytes_getElem {buf : FrameBuffer} {bs : List Byte} {i : Nat} {j : Fin 16} {k : Nat} (hj : j.val = i + k)
    (hk : k < bs.length) : (writeBytes buf i bs)[j] = some bs[k] := by
  induction bs generalizing buf i k with
  | nil => simp at hk
  | cons b bs ih =>
    rw [writeBytes]
    cases k with
    | zero => rw [writeBytes_getElem_below (by omega), memWrite_getElem, if_pos (by omega), List.getElem_cons_zero]
    | succ k => exact ih (by omega) (by simpa using hk)

/-- A buffer that a whole frame was written to reads as that frame. -/
theorem readFrame_writeBytes (buf : FrameBuffer) (f : RawFrame) : readFrame (writeBytes buf 0 f.toList) = .ok f :=
  readFrame_ok_iff_cells.2 fun j => by
    rw [writeBytes_getElem (k := j.val) (by omega) (by simp)]
    simp

theorem State.storeByte_phase_eq_fillPhase (s : State) (b : Byte) :
    (s.storeByte b).phase = fillPhase (s.storeByte b).cnt := by
  have hlast : s.cnt + 1#5 = 16#5 ↔ s.cnt = 15#5 := by
    constructor <;> intro h <;> bv_omega
  rw [State.storeByte_phase, State.storeByte_cnt, fillPhase]
  exact if_congr hlast.symm rfl rfl

/-- `s` after its fill has taken the bytes `bs`, with `rest` left on the line. -/
def State.filled (bs : List Byte) (rest : List EvWord) (s : State) : State :=
  { s with
    phase    := fillPhase (s.cnt + BitVec.ofNat 5 bs.length)
    buf      := writeBytes s.buf s.cnt.toNat bs
    cnt      := s.cnt + BitVec.ofNat 5 bs.length
    source   := rest
    offers   := offersAfter s.offersLoop bs.length s.offers
    consumed := s.consumed + bs.length }

theorem State.filled_nil {s : State} (hp : s.phase = fillPhase s.cnt) : s.filled [] s.source = s := by
  simp [State.filled, writeBytes, offersAfter, ← hp]

theorem State.filled_cons {s : State} (b : Byte) (bs : List Byte) (rest : List EvWord) (hc : s.cnt.toNat ≤ 15) :
    (s.consume.storeByte b).filled bs rest = s.filled (b :: bs) rest := by
  have hcnt : s.cnt + 1#5 + BitVec.ofNat 5 bs.length = s.cnt + BitVec.ofNat 5 (bs.length + 1) := by
    rw [BitVec.add_assoc, Nat.add_comm bs.length, BitVec.ofNat_add]
  simp [State.filled, writeBytes, offersAfter, State.agenda, hcnt, cnt_succ_toNat hc, Nat.add_assoc, Nat.add_comm 1]

/-- A fill takes one BYTE a step, up to the 16th. -/
theorem run_fill {bs : List Byte} {s : State} {rest : List EvWord} (hp : s.phase = fillPhase s.cnt)
    (hc : s.cnt.toNat + bs.length ≤ 16) (hs : s.source = byteWords bs ++ rest)
    (hidle : IdleFor s.offersLoop bs.length s.offers) :
    Host.Core.run Sys2Proof.core bs.length s = .next (s.filled bs rest) := by
  induction bs generalizing s with
  | nil =>
    obtain rfl : s.source = rest := hs
    rw [State.filled_nil hp]
    exact run_zero s
  | cons b bs ih =>
    rw [List.length_cons] at hc hidle ⊢
    obtain ⟨hnow, hlater⟩ := hidle
    have hne : s.cnt ≠ 16#5 := fun h => by simp [h] at hc
    have hfill : s.phase = .fill := by rw [hp, fillPhase, if_neg hne]
    have hstep : step s = .next (s.consume.storeByte b) := step_fill_byte hfill (by omega) hnow hs
    rw [run_succ_next hstep, ← State.filled_cons b bs rest (by omega)]
    refine ih (State.storeByte_phase_eq_fillPhase _ b) ?_ ?_ hlater
    · rw [State.storeByte_cnt, State.consume_cnt, cnt_succ_toNat (by omega)]
      omega
    · rw [State.storeByte_source, State.consume_source, State.line_of_source hs, List.tail_cons]
      rfl

/-! ### A discard (R101) -/

/-- `s` after its discard has counted down the last `n` bytes, with `rest` left on the line. -/
def State.discarded (n : Nat) (rest : List EvWord) (s : State) : State :=
  { s with
    phase    := .fill
    cnt      := 0#5
    rem      := 0#4
    source   := rest
    offers   := offersAfter s.offersLoop n s.offers
    consumed := s.consumed + n }

theorem State.discarded_succ (r : BitVec 4) (n : Nat) (rest : List EvWord) (s : State) :
    (s.consume.setRem r).discarded n rest = s.discarded (n + 1) rest := by
  simp [State.discarded, offersAfter, State.agenda, Nat.add_assoc, Nat.add_comm 1]

/-- A discard takes one BYTE a step, and the last one begins a fill. -/
theorem run_discard {b : Byte} {bs : List Byte} {s : State} {rest : List EvWord} (hp : s.phase = .discard)
    (hr : s.rem.toNat = bs.length + 1) (hs : s.source = byteWords (b :: bs) ++ rest)
    (hidle : IdleFor s.offersLoop (bs.length + 1) s.offers) :
    Host.Core.run Sys2Proof.core (bs.length + 1) s = .next (s.discarded (bs.length + 1) rest) := by
  induction bs generalizing b s with
  | nil =>
    have hlast : s.rem = 1#4 := BitVec.eq_of_toNat_eq hr
    have hstep : step s = .next (s.discarded 1 rest) := by
      rw [step_discard_byte hp hidle.1 hs, exec_srcByteDiscard_last (s := s.consume) b hp hlast]
      simp [State.discarded, State.beginFill, State.setRem, State.consume, State.line_of_source hs,
        offersAfter, State.agenda]
    rw [List.length_nil, run_succ_next hstep]
    exact run_zero _
  | cons c bs ih =>
    rw [List.length_cons] at hr hidle ⊢
    obtain ⟨hnow, hlater⟩ := hidle
    have h0 : s.rem ≠ 0#4 := fun h => by simp [h] at hr
    have h1 : s.rem ≠ 1#4 := fun h => by simp [h] at hr
    have hone : (s.rem - 1#4).toNat = s.rem.toNat - 1 :=
      BitVec.toNat_sub_of_le (BitVec.le_def.2 (by simp; omega))
    have hstep : step s = .next (s.consume.setRem (s.rem - 1#4)) := by
      rw [step_discard_byte hp hnow hs]
      exact exec_srcByteDiscard_more b hp h0 h1
    rw [run_succ_next hstep, ← State.discarded_succ (s.rem - 1#4)]
    refine ih (b := c) hp ?_ ?_ hlater
    · rw [State.setRem_rem, hone]
      omega
    · rw [State.setRem_source, State.consume_source, State.line_of_source hs, List.tail_cons]
      rfl

/-! ### An attempt (R120, R130) -/

theorem byteWords_append (as bs : List Byte) : byteWords (as ++ bs) = byteWords as ++ byteWords bs :=
  List.map_append

/-- A fill that starts from empty takes the 16 bytes of a frame, and CHECK is due. -/
theorem run_fill_frame {s : State} {f : RawFrame} {rest : List EvWord} (hp : s.phase = .fill) (hc : s.cnt = 0#5)
    (hs : s.source = byteWords f.toList ++ rest) (hidle : IdleFor s.offersLoop 16 s.offers) :
    Host.Core.run Sys2Proof.core 16 s = .next (s.filled f.toList rest) := by
  have hlen : f.toList.length = 16 := f.length_toList
  have hrun := run_fill (bs := f.toList) (by simp [hp, hc, fillPhase]) (by simp [hc]) hs (hlen.symm ▸ hidle)
  rwa [hlen] at hrun

theorem State.filled_frame_offers (s : State) (f : RawFrame) (rest : List EvWord) :
    (s.filled f.toList rest).offers = offersAfter s.offersLoop 16 s.offers := by
  rw [State.filled, f.length_toList]

/-- The entries left after the fill and its CHECK. -/
theorem State.filled_frame_wait_offers (s : State) (f : RawFrame) (rest : List EvWord) :
    (s.filled f.toList rest).wait.offers = offersAfter s.offersLoop 17 s.offers := by
  rw [State.wait_offers, State.agenda, State.filled_frame_offers]
  exact (offersAfter_add s.offersLoop s.offers 16 1).symm

/-- The CHECK after the 16th byte, in the same attempt. -/
theorem run_attempt {s : State} {f : RawFrame} {rest : List EvWord} (hp : s.phase = .fill) (hc : s.cnt = 0#5)
    (hs : s.source = byteWords f.toList ++ rest) (hidle : IdleFor s.offersLoop 17 s.offers)
    (hw : ∀ w ∈ (rest ++ s.sourceLoop).head?, evKind w ≠ .reserved) :
    (classify s.config.loneMarkerScan f = .aligned →
      Host.Core.run Sys2Proof.core 17 s = .next ((s.filled f.toList rest).wait.present (payloadOf f))) ∧
    (∀ n, classify s.config.loneMarkerScan f = .skip n →
      Host.Core.run Sys2Proof.core 17 s = .next ((s.filled f.toList rest).wait.startDiscard n)) := by
  obtain ⟨hidle16, hnow, -⟩ := (idleFor_add (j := 16) (k := 1)).1 hidle
  have hfull : (s.filled f.toList rest).phase = .check := by simp [State.filled, fillPhase, hc]
  have hoffer : (s.filled f.toList rest).nextOffer = Offer.idle := by
    rw [State.nextOffer, State.agenda, State.filled_frame_offers]
    exact hnow
  have hread : readFrame (s.filled f.toList rest).buf = .ok f := by
    simpa [State.filled, hc] using readFrame_writeBytes s.buf f
  have hstep : step (s.filled f.toList rest) = exec .check (s.filled f.toList rest).wait :=
    step_check_idle hfull hoffer (by rw [State.line, head?_orLoop]; exact hw)
  have hrun : ∀ t, exec .check (s.filled f.toList rest).wait = .next t →
      Host.Core.run Sys2Proof.core 17 s = .next t := fun t ht => by
    rw [show 17 = 16 + 1 from rfl, run_add (run_fill_frame hp hc hs hidle16), run_succ_next (hstep.trans ht)]
    exact run_zero t
  exact ⟨fun hclass => hrun _ (execCheck_aligned hfull hread hclass),
    fun n hclass => hrun _ (execCheck_skip hfull hread hclass)⟩

/-- A line that goes on with a BYTE offers no reserved word. -/
theorem head?_byteWords_unreserved (b : Byte) (bs : List Byte) (tail loop : List EvWord) :
    ∀ w ∈ (byteWords (b :: bs) ++ tail ++ loop).head?, evKind w ≠ .reserved := by
  simp [byteWords]

/-- A failed attempt with Skip(n), and its discard of n bytes. -/
theorem run_skipped_attempt {s : State} {f : RawFrame} {n : BitVec 4} {thrown : List Byte} {rest : List EvWord}
    (hp : s.phase = .fill) (hc : s.cnt = 0#5) (hs : s.source = byteWords f.toList ++ (byteWords thrown ++ rest))
    (hidle : IdleFor s.offersLoop (17 + n.toNat) s.offers) (hclass : classify s.config.loneMarkerScan f = .skip n)
    (hthrown : thrown.length = n.toNat) :
    Host.Core.run Sys2Proof.core (17 + n.toNat) s = .next
      (((s.filled f.toList (byteWords thrown ++ rest)).wait.startDiscard n).discarded n.toNat rest) := by
  obtain ⟨hidle17, hlater⟩ := idleFor_add.1 hidle
  obtain ⟨hpos, -⟩ := classify_skip_bounds hclass
  cases thrown with
  | nil => simp at hthrown; omega
  | cons b bs =>
    rw [List.length_cons] at hthrown
    have hw := head?_byteWords_unreserved b bs rest s.sourceLoop
    rw [run_add ((run_attempt hp hc hs hidle17 hw).2 n hclass), ← hthrown]
    refine run_discard (b := b) rfl hthrown.symm rfl ?_
    rw [hthrown, State.startDiscard_offers, State.filled_frame_wait_offers]
    exact hlater

end Sys2Proof.Machine
end

section
/-! PROOFS. Streams of BYTEs from a fresh fill (41_frame_check.md R129 to R131, 70_reset_and_hazards.md R205). -/

namespace Sys2Proof.Machine

/-! ### An attempt from a fresh fill (R130) -/

/-- An aligned attempt from a fresh fill, with all that later attempts need of the state after it. -/
theorem State.FreshFill.run_aligned {s : State} {f : RawFrame} {rest : List EvWord}
    (hs : s.FreshFill (byteWords f.toList ++ rest)) (hw : ∀ w ∈ (rest ++ s.sourceLoop).head?, evKind w ≠ .reserved)
    (hclass : classify s.config.loneMarkerScan f = .aligned) :
    ∃ t : State, Host.Core.run Sys2Proof.core 17 s = .next t ∧ t.phase = .emit ∧
      t.outPayload = some (payloadOf f) ∧ t.source = rest ∧ t.consumed = s.consumed + 16 ∧
      t.emitted = s.emitted ++ [payloadOf f] ∧ t.offersLoop = [] := by
  have hidle : IdleFor s.offersLoop 17 s.offers := hs.offers ▸ hs.idle ▸ idleFor_nil 17
  have hrun := (run_attempt hs.phase hs.cnt hs.source hidle hw).1 hclass
  have hlen : f.toList.length = 16 := f.length_toList
  exact ⟨_, hrun, rfl, rfl, rfl, by simp [State.filled, hlen], rfl, hs.idle⟩

/-- A failed attempt from a fresh fill, which leads to a fresh fill. -/
theorem State.FreshFill.run_skipped {s : State} {f : RawFrame} {n : BitVec 4} {thrown : List Byte} {rest : List EvWord}
    (hs : s.FreshFill (byteWords f.toList ++ (byteWords thrown ++ rest)))
    (hclass : classify s.config.loneMarkerScan f = .skip n) (hthrown : thrown.length = n.toNat) :
    ∃ t : State, Host.Core.run Sys2Proof.core (17 + n.toNat) s = .next t ∧ t.FreshFill rest ∧ t.skip = some n ∧
      t.consumed = s.consumed + 16 + n.toNat ∧ t.emitted = s.emitted ∧ t.sourceLoop = s.sourceLoop := by
  have hidle : IdleFor s.offersLoop (17 + n.toNat) s.offers := hs.offers ▸ hs.idle ▸ idleFor_nil _
  have hrun := run_skipped_attempt hs.phase hs.cnt hs.source hidle hclass hthrown
  have hlen : f.toList.length = 16 := f.length_toList
  refine ⟨_, hrun, ⟨rfl, rfl, ?_, hs.idle, rfl⟩, rfl, by simp [State.discarded, State.filled, hlen], rfl, rfl⟩
  simp [State.discarded, State.filled, State.agenda, hs.offers, hs.idle]

/-- Settles O51: an aligned attempt is a fill and a CHECK; a failed one is a discard longer. -/
theorem bytesConsumedPerAttempt : Obligations.BytesConsumedPerAttempt := fun s f rest hs hw => by
  refine ⟨fun hclass => ?_, fun n thrown line hclass hthrown hrest => ?_⟩
  · obtain ⟨t, hrun, hp, hout, hsrc, hcons, -, -⟩ := hs.run_aligned hw hclass
    exact ⟨t, hrun, hp, hout, hsrc, hcons⟩
  · obtain ⟨t, hrun, hfresh, -, hcons, hem, -⟩ := (hrest ▸ hs).run_skipped hclass hthrown
    exact ⟨t, hrun, hfresh, hcons, hem⟩

/-! ### Frames cut out of a list of bytes -/

/-- 16 bytes of the line, as a frame. -/
def frameOf (l : List Byte) (h : l.length = 16) : RawFrame := ⟨l.toArray, by simpa using h⟩

@[simp] theorem frameOf_toList (l : List Byte) (h : l.length = 16) : (frameOf l h).toList = l := rfl

@[simp] theorem frameOf_getElem? (l : List Byte) (h : l.length = 16) (i : Nat) : (frameOf l h)[i]? = l[i]? := by
  rw [← Vector.getElem?_toList, frameOf_toList]

theorem wireFrame_length (p : Payload) : (wireFrame p).length = 16 := by simp [wireFrame]

/-- A frame is aligned and carries its payload (R74, R121). -/
theorem classify_wireFrame (mode : LoneMarkerScan) (p : Payload) :
    classify mode (frameOf (wireFrame p) (wireFrame_length p)) = .aligned :=
  (classify_eq_aligned_iff _ _).2 ((isAligned_iff _).2 ⟨rfl, rfl⟩)

theorem payloadOf_wireFrame (p : Payload) : payloadOf (frameOf (wireFrame p) (wireFrame_length p)) = p := by
  refine Vector.ext fun j hj => ?_
  have hbyte := payloadOf_getElem (frameOf (wireFrame p) (wireFrame_length p)) ⟨j, hj⟩
  refine hbyte.trans ?_
  simp [frameOf, wireFrame]

/-- Two marker bytes begin an aligned frame only. -/
theorem not_aligned_of_getElem? {f : RawFrame} {j : Nat} (hj : j < 2) (h : f[j]? ≠ some markerByte) :
    ¬ (f[0] = 0xFF#8 ∧ f[1] = 0xFF#8) := by
  rintro ⟨h0, h1⟩
  interval_cases j <;> simp_all [markerByte]

/-- R124: the bytes from index 1 to d hold no marker byte, and a full marker or a straddle begins at d. -/
theorem classify_of_marker_at (mode : LoneMarkerScan) {f : RawFrame} {d : Nat} (hpos : 1 ≤ d)
    (hfar : ¬ (f[0] = 0xFF#8 ∧ f[1] = 0xFF#8)) (hbefore : ∀ j, 1 ≤ j → j < d → f[j]? ≠ some markerByte)
    (hat : f[d]? = some markerByte) (hnext : d = 15 ∨ f[d + 1]? = some markerByte) :
    classify mode f = .skip (BitVec.ofNat 4 d) := by
  have hdec : ScanDecides mode f d := ⟨hpos, hat, hnext.imp_right .inl⟩
  have hfirst : ∀ j < d, ¬ ScanDecides mode f j := fun j hj ⟨h1, hm, _⟩ => hbefore j h1 hj hm
  rw [classify_of_first_decides hfar hdec hfirst]
  exact congrArg (fun n => Verdict.skip (BitVec.ofNat 4 n)) (if_pos hnext)

/-- R125: a buffer without a marker byte. -/
theorem classify_of_no_marker (mode : LoneMarkerScan) {f : RawFrame} (h : ∀ b ∈ f.toList, b ≠ markerByte) :
    classify mode f = .skip 1#4 := by
  have hcell : ∀ j : Nat, f[j]? ≠ some markerByte := fun j hj =>
    h markerByte (List.mem_of_getElem? (Vector.getElem?_toList.trans hj)) rfl
  exact classify_of_none_decides (not_aligned_of_getElem? (j := 0) (by decide) (hcell 0)) fun i hi => hcell i hi.2.1

/-! ### Attempts on a stream of frames (R129, R131) -/

/-- A fill that starts on a frame emits it. -/
theorem State.FreshFill.run_frame {s : State} {p : Payload} {rest : List EvWord}
    (hs : s.FreshFill (byteWords (wireFrame p) ++ rest))
    (hw : ∀ w ∈ (rest ++ s.sourceLoop).head?, evKind w ≠ .reserved) :
    ∃ t : State, Host.Core.run Sys2Proof.core 17 s = .next t ∧ t.phase = .emit ∧ t.outPayload = some p ∧
      t.source = rest ∧ t.consumed = s.consumed + 16 ∧ t.emitted = s.emitted ++ [p] ∧ t.offersLoop = [] := by
  obtain ⟨t, hrun, hp, hout, hsrc, hcons, hem, hloop⟩ := hs.run_aligned
    (f := frameOf (wireFrame p) (wireFrame_length p)) hw (classify_wireFrame _ p)
  rw [payloadOf_wireFrame] at hout hem
  exact ⟨t, hrun, hp, hout, hsrc, hcons, hem, hloop⟩

/-- A fill that starts `a.length` bytes before a frame, on bytes whose one possible marker byte is the first of several,
skips them, and the next fill starts where that frame ends. -/
theorem State.FreshFill.run_before_frame {s : State} {a : List Byte} {p : Payload} {rest : List EvWord}
    (hs : s.FreshFill (byteWords (a ++ wireFrame p) ++ rest)) (hpos : 1 ≤ a.length) (hle : a.length ≤ 15)
    (hfirst : a.length = 1 → a[0]? ≠ some markerByte) (hlater : ∀ j, 1 ≤ j → a[j]? ≠ some markerByte) :
    ∃ t : State, Host.Core.run Sys2Proof.core (17 + a.length) s = .next t ∧ t.FreshFill rest ∧
      t.skip = some (BitVec.ofNat 4 a.length) ∧ t.consumed = s.consumed + 16 + a.length ∧
      t.emitted = s.emitted ∧ t.sourceLoop = s.sourceLoop := by
  have hlen := wireFrame_length p
  have hfill : (a ++ (wireFrame p).take (16 - a.length)).length = 16 := by simp [hlen]; omega
  have hnat : (BitVec.ofNat 4 a.length).toNat = a.length := by
    rw [BitVec.toNat_ofNat]
    omega
  have hbefore : ∀ j, j < a.length → (frameOf _ hfill)[j]? = a[j]? := fun j hj => by
    rw [frameOf_getElem?, List.getElem?_append_left hj]
  have hafter : ∀ j, a.length + j < 16 → (frameOf _ hfill)[a.length + j]? = (wireFrame p)[j]? := fun j hj => by
    rw [frameOf_getElem?, List.getElem?_append_right (by omega), Nat.add_sub_cancel_left,
      List.getElem?_take_of_lt (by omega)]
  have hfar : ¬ ((frameOf _ hfill)[0] = 0xFF#8 ∧ (frameOf _ hfill)[1] = 0xFF#8) := by
    by_cases hone : a.length = 1
    · exact not_aligned_of_getElem? (j := 0) (by decide) (by rw [hbefore 0 (by omega)]; exact hfirst hone)
    · exact not_aligned_of_getElem? (j := 1) (by decide) (by rw [hbefore 1 (by omega)]; exact hlater 1 le_rfl)
  have hclass : classify s.config.loneMarkerScan (frameOf _ hfill) = .skip (BitVec.ofNat 4 a.length) := by
    refine classify_of_marker_at _ hpos hfar (fun j h1 hj => ?_) ((hafter 0 (by omega)).trans rfl) ?_
    · rw [hbefore j hj]
      exact hlater j h1
    · by_cases hlast : a.length = 15
      · exact .inl hlast
      · exact .inr ((hafter 1 (by omega)).trans rfl)
  have hcut : byteWords (a ++ wireFrame p) ++ rest = byteWords (frameOf _ hfill).toList ++
      (byteWords ((wireFrame p).drop (16 - a.length)) ++ rest) := by
    rw [frameOf_toList, ← List.append_assoc, ← byteWords_append, List.append_assoc, List.take_append_drop]
  have hrun := (hcut ▸ hs).run_skipped hclass (by simp [hlen, hnat]; omega)
  rwa [hnat] at hrun

/-- R129, R131: past its sentinel a frame whose payload holds no 0xFF has no marker byte. -/
theorem wireFrame_getElem?_ne_marker {p : Payload} (h : ∀ j : Fin 14, p[j] ≠ markerByte) {i : Nat} (hi : 2 ≤ i) :
    (wireFrame p)[i]? ≠ some markerByte := by
  obtain ⟨j, rfl⟩ : ∃ j, i = j + 2 := ⟨i - 2, by omega⟩
  intro hm
  have hp : p[j]? = some markerByte := by simpa [wireFrame] using hm
  obtain ⟨hj, hb⟩ := Vector.getElem?_eq_some_iff.1 hp
  exact h ⟨j, hj⟩ hb

theorem backToBack_cons (p : Payload) (ps : List Payload) : backToBack (p :: ps) = wireFrame p ++ backToBack ps := rfl

/-- The words of a frame and of what follows it. -/
theorem byteWords_wireFrame_append (p : Payload) (bs : List Byte) (tail : List EvWord) :
    byteWords (wireFrame p ++ bs) ++ tail = byteWords (wireFrame p) ++ (byteWords bs ++ tail) := by
  rw [byteWords_append, List.append_assoc]

theorem head?_frame_unreserved (p : Payload) (bs : List Byte) (tail loop : List EvWord) :
    ∀ w ∈ (byteWords (wireFrame p ++ bs) ++ tail ++ loop).head?, evKind w ≠ .reserved :=
  head?_byteWords_unreserved markerByte _ tail loop

/-- Settles O52: a fill on a marker emits; one that begins d bytes before it holds the last d bytes of a frame, whose
one marker byte can be the first of 15. -/
theorem periodicStreamAligns : Obligations.PeriodicStreamAligns := fun s p0 p1 ps d tail hfree hd hs => by
  refine ⟨fun h0 => ?_, fun h0 => ?_⟩
  · subst h0
    rw [show (16 - 0) % 16 = 0 from rfl, List.drop_zero, backToBack_cons, byteWords_wireFrame_append] at hs
    obtain ⟨t, hrun, hp, hout, hsrc, -, -⟩ := hs.run_frame (head?_frame_unreserved p1 _ tail _)
    exact ⟨t, hrun, hp, hout, hsrc⟩
  · have hlen := wireFrame_length p0
    have hsuffix : ((wireFrame p0).drop (16 - d)).length = d := by rw [List.length_drop, hlen]; omega
    have hclear : ∀ j, 2 ≤ 16 - d + j → ((wireFrame p0).drop (16 - d))[j]? ≠ some markerByte := fun j hj => by
      rw [List.getElem?_drop]
      exact wireFrame_getElem?_ne_marker (hfree p0 (by simp)) hj
    rw [Nat.mod_eq_of_lt (by omega), backToBack_cons, backToBack_cons, List.drop_append_of_le_length (by omega),
      ← List.append_assoc, byteWords_append, List.append_assoc] at hs
    obtain ⟨t, hrun, hfresh, hskip, -⟩ := hs.run_before_frame (by omega) (by omega)
      (fun h1 => hclear 0 (by omega)) (fun j hj => hclear j (by omega))
    rw [hsuffix] at hrun hskip
    exact ⟨t, hrun, hskip, hfresh⟩

/-! ### Convergence after junk (R131) -/

/-- 17 bytes of which the first 16 hold no marker byte are one failed attempt with Skip(1). -/
theorem State.FreshFill.run_junk {s : State} {a : List Byte} {b : Byte} {rest : List EvWord}
    (hs : s.FreshFill (byteWords (a ++ [b]) ++ rest)) (ha : a.length = 16) (hfree : ∀ c ∈ a, c ≠ markerByte) :
    ∃ t : State, Host.Core.run Sys2Proof.core 18 s = .next t ∧ t.FreshFill rest ∧ t.consumed = s.consumed + 17 ∧
      t.emitted = s.emitted ∧ t.sourceLoop = s.sourceLoop := by
  have hclass : classify s.config.loneMarkerScan (frameOf a ha) = .skip 1#4 := classify_of_no_marker _ hfree
  rw [byteWords_append, List.append_assoc] at hs
  obtain ⟨t, hrun, hfresh, -, hcons, hem, hloop⟩ := hs.run_skipped (f := frameOf a ha) hclass rfl
  exact ⟨t, hrun, hfresh, hcons, hem, hloop⟩

/-- Junk goes by in blocks of 17 bytes. -/
theorem State.FreshFill.run_junk_blocks {s : State} {junk bs : List Byte} {tail : List EvWord} {q : Nat}
    (hs : s.FreshFill (byteWords (junk ++ bs) ++ tail)) (hq : 17 * q ≤ junk.length)
    (hfree : ∀ b ∈ junk, b ≠ markerByte) :
    ∃ (n : Nat) (t : State), Host.Core.run Sys2Proof.core n s = .next t ∧
      t.FreshFill (byteWords (junk.drop (17 * q) ++ bs) ++ tail) ∧ t.consumed = s.consumed + 17 * q ∧
      t.emitted = s.emitted ∧ t.sourceLoop = s.sourceLoop := by
  induction q with
  | zero => exact ⟨0, s, run_zero s, hs, rfl, rfl, rfl⟩
  | succ q ih =>
    obtain ⟨n, t, hrun, hfresh, hcons, hem, hloop⟩ := ih (by omega)
    have hblock : junk.drop (17 * q) = (junk.drop (17 * q)).take 16 ++ [(junk.drop (17 * q))[16]'(by simp; omega)] ++
        junk.drop (17 * (q + 1)) := by
      rw [List.take_append_getElem, Nat.mul_succ, ← List.drop_drop, List.take_append_drop]
    rw [hblock, List.append_assoc, byteWords_append, List.append_assoc] at hfresh
    obtain ⟨u, hrun', hfresh', hcons', hem', hloop'⟩ := hfresh.run_junk (by simp; omega)
      fun c hc => hfree c (List.mem_of_mem_drop (List.mem_of_mem_take hc))
    exact ⟨n + 18, u, (run_add hrun).trans hrun', hfresh', by rw [hcons', hcons]; omega, hem'.trans hem,
      hloop'.trans hloop⟩

/-- A fill that starts up to 15 bytes before a frame emits the frame after it. -/
theorem State.FreshFill.run_to_second_frame {s : State} {a bs : List Byte} {p p' : Payload} {tail : List EvWord}
    (hs : s.FreshFill (byteWords (a ++ (wireFrame p ++ (wireFrame p' ++ bs))) ++ tail)) (hpos : 1 ≤ a.length)
    (hle : a.length ≤ 15) (hfirst : a.length = 1 → a[0]? ≠ some markerByte)
    (hlater : ∀ j, 1 ≤ j → a[j]? ≠ some markerByte)
    (hw : ∀ w ∈ (byteWords bs ++ tail ++ s.sourceLoop).head?, evKind w ≠ .reserved) :
    ∃ (n : Nat) (t : State), Host.Core.run Sys2Proof.core n s = .next t ∧ t.phase = .emit ∧
      t.emitted = s.emitted ++ [p'] ∧ t.consumed = s.consumed + a.length + 32 := by
  rw [← List.append_assoc, byteWords_append, List.append_assoc] at hs
  obtain ⟨t, hrun, hfresh, -, hcons, hem, hloop⟩ := hs.run_before_frame hpos hle hfirst hlater
  rw [byteWords_wireFrame_append] at hfresh
  obtain ⟨u, hrun', hp, -, -, hcons', hem', -⟩ := hfresh.run_frame (hloop ▸ hw)
  exact ⟨_, u, (run_add hrun).trans hrun', hp, hem ▸ hem', by omega⟩

/-- Bytes of which none is a marker byte, at any index. -/
theorem getElem?_ne_marker {a : List Byte} (h : ∀ b ∈ a, b ≠ markerByte) (j : Nat) : a[j]? ≠ some markerByte :=
  fun hj => h markerByte (List.mem_of_getElem? hj) rfl

/-- With 16 bytes of junk left, the fill after them starts on F0's second marker byte, 15 bytes before F1. -/
theorem State.FreshFill.run_to_third_frame {s : State} {a : List Byte} {p0 p1 p2 : Payload} {tail : List EvWord}
    (hs : s.FreshFill (byteWords (a ++ backToBack [p0, p1, p2]) ++ tail)) (ha : a.length = 16)
    (hclear : ∀ b ∈ a, b ≠ markerByte) (hfree : ∀ j : Fin 14, p0[j] ≠ markerByte)
    (hw : ∀ w ∈ (tail ++ s.sourceLoop).head?, evKind w ≠ .reserved) :
    ∃ (n : Nat) (t : State), Host.Core.run Sys2Proof.core n s = .next t ∧ t.phase = .emit ∧
      t.emitted = s.emitted ++ [p2] ∧ t.consumed = s.consumed + 64 := by
  have hcut : a ++ backToBack [p0, p1, p2] =
      (a ++ [markerByte]) ++ (markerByte :: p0.toList ++ (wireFrame p1 ++ (wireFrame p2 ++ []))) := by
    simp [backToBack, wireFrame]
  rw [hcut, byteWords_append, List.append_assoc] at hs
  obtain ⟨t, hrun, hfresh, hcons, hem, hloop⟩ := hs.run_junk ha hclear
  have hlater : ∀ j, 1 ≤ j → (markerByte :: p0.toList)[j]? ≠ some markerByte := fun j hj =>
    wireFrame_getElem?_ne_marker (i := j + 1) hfree (by omega)
  obtain ⟨n, u, hrun', hp, hem', hcons'⟩ := hfresh.run_to_second_frame (by simp) (by simp) (by simp) hlater (hloop ▸ hw)
  exact ⟨_, u, (run_add hrun).trans hrun', hp, hem ▸ hem', by simp at hcons'; omega⟩

/-- Settles O53: blocks of 17, and then the r = k mod 17 bytes left: none, so F0 is emitted; 1 to 15, so the next fill
starts on F1; or 16. -/
theorem convergenceFromAJunkPrefix : Obligations.ConvergenceFromAJunkPrefix :=
    fun s junk p0 p1 p2 tail hjunk hfree hw hs => by
  obtain ⟨n, t, hrun, hfresh, hcons, hem, hloop⟩ := hs.run_junk_blocks (q := junk.length / 17) (by omega) hjunk
  have hlen : (junk.drop (17 * (junk.length / 17))).length = junk.length % 17 := by rw [List.length_drop]; omega
  have hclear : ∀ b ∈ junk.drop (17 * (junk.length / 17)), b ≠ markerByte := fun b hb =>
    hjunk b (List.mem_of_mem_drop hb)
  generalize junk.drop (17 * (junk.length / 17)) = a at hfresh hlen hclear
  obtain h0 | ⟨hpos, hle⟩ | h16 : a.length = 0 ∨ (1 ≤ a.length ∧ a.length ≤ 15) ∨ a.length = 16 := by omega
  · obtain rfl : a = [] := List.length_eq_zero_iff.1 h0
    rw [List.nil_append, backToBack_cons, byteWords_wireFrame_append] at hfresh
    obtain ⟨u, hrun', hp, -, -, hcons', hem', -⟩ := hfresh.run_frame (head?_frame_unreserved p1 _ tail _)
    exact ⟨_, u, (run_add hrun).trans hrun', hp, fun _ => ⟨hem ▸ hem', by omega⟩, by omega, by omega⟩
  · obtain ⟨m, u, hrun', hp, hem', hcons'⟩ := hfresh.run_to_second_frame hpos hle (fun _ => getElem?_ne_marker hclear 0)
      (fun j _ => getElem?_ne_marker hclear j) (head?_frame_unreserved p2 _ tail _)
    exact ⟨_, u, (run_add hrun).trans hrun', hp, by omega, fun _ _ => ⟨hem ▸ hem', by omega⟩, by omega⟩
  · obtain ⟨m, u, hrun', hp, hem', hcons'⟩ := hfresh.run_to_third_frame h16 hclear (hfree p0 (by simp)) (hloop ▸ hw)
    exact ⟨_, u, (run_add hrun).trans hrun', hp, by omega, by omega, fun _ => ⟨hem ▸ hem', by omega⟩⟩

/-! ### Frames that end in 0xFF (R205) -/

theorem payload_toList (p : Payload) :
    p.toList = [p[0], p[1], p[2], p[3], p[4], p[5], p[6], p[7], p[8], p[9], p[10], p[11], p[12], p[13]] := by
  apply List.ext_getElem
  · simp
  · intro j hj _
    have hlt : j < 14 := by simpa using hj
    interval_cases j <;> simp

/-- R205: a 0xFF before a frame makes a frame of its own, and leaves the last byte over. -/
theorem marker_cons_wireFrame (p : Payload) :
    markerByte :: wireFrame p = wireFrame (shiftedPayload p) ++ [p[13]] := by
  rw [wireFrame, payload_toList]
  rfl

/-- The line of a fill that starts on a final 0xFF, cut after 16 bytes. -/
theorem byteWords_shifted {p : Payload} (h : p[13] = 0xFF#8) (line : List EvWord) :
    byteWords (0xFF#8 :: wireFrame p) ++ line =
      byteWords (wireFrame (shiftedPayload p)) ++ (byteWords [0xFF#8] ++ line) := by
  have hcut := marker_cons_wireFrame p
  rw [h] at hcut
  rw [← List.append_assoc, ← byteWords_append, ← hcut]
  rfl

/-- One frame: the shifted emission, and ACCEPT. -/
theorem State.FreshFill.run_shifted {s : State} {p : Payload} {line : List EvWord} (h : p[13] = 0xFF#8)
    (hs : s.FreshFill (byteWords (0xFF#8 :: wireFrame p) ++ line)) :
    ∃ t u : State, Host.Core.run Sys2Proof.core 17 s = .next t ∧ t.phase = .emit ∧
      t.outPayload = some (shiftedPayload p) ∧ t.source = byteWords [0xFF#8] ++ line ∧
      step { t with offers := [.ports false true false] } = .next u ∧ u.FreshFill (byteWords [0xFF#8] ++ line) := by
  rw [byteWords_shifted h] at hs
  obtain ⟨t, hrun, hp, hout, hsrc, -, -, hloop⟩ := hs.run_frame (head?_byteWords_unreserved 0xFF#8 [] line _)
  have hline : ∀ w ∈ ({ t with offers := [.ports false true false] } : State).line.head?, evKind w ≠ .reserved := by
    rw [State.line, head?_orLoop, hsrc]
    exact head?_byteWords_unreserved 0xFF#8 [] line _
  exact ⟨t, _, hrun, hp, hout, hsrc, step_accept hp rfl hline, ⟨rfl, rfl, rfl, hloop, hsrc⟩⟩

/-- Entries that are idle for `k` steps. -/
theorem idleFor_replicate (loop : List Offer) (k : Nat) (later : List Offer) :
    IdleFor loop k (List.replicate k Offer.idle ++ later) := by
  induction k with
  | zero => trivial
  | succ k ih => exact ⟨rfl, ih⟩

/-- A consumer that accepts one frame every 18 steps, at the end of each attempt. -/
def acceptEach : List Offer := List.replicate 17 (Offer.ports false false false) ++ [Offer.ports false true false]

/-- A fill that starts on a final 0xFF, under such a consumer: 18 steps emit the frame shifted, and lead to such a fill
again. -/
theorem run_shifted_accepted {s : State} {p : Payload} {line : List EvWord} (h : p[13] = 0xFF#8) (hp : s.phase = .fill)
    (hc : s.cnt = 0#5) (hs : s.source = byteWords (0xFF#8 :: wireFrame p) ++ line) (ho : s.offers = [])
    (hloop : s.offersLoop = acceptEach) :
    ∃ t : State, Host.Core.run Sys2Proof.core 18 s = .next t ∧ t.phase = .fill ∧ t.cnt = 0#5 ∧
      t.source = byteWords [0xFF#8] ++ line ∧ t.offers = [] ∧ t.offersLoop = acceptEach ∧
      t.emitted = s.emitted ++ [shiftedPayload p] := by
  rw [byteWords_shifted h] at hs
  have hidle : IdleFor s.offersLoop 17 s.offers := by
    rw [ho, hloop]
    exact idleFor_replicate acceptEach 17 _
  obtain ⟨t, hrun, hpt, hst, hot, hlt, hem⟩ : ∃ t : State, Host.Core.run Sys2Proof.core 17 s = .next t ∧
      t.phase = .emit ∧ t.source = byteWords [0xFF#8] ++ line ∧ t.offers = offersAfter s.offersLoop 17 s.offers ∧
      t.offersLoop = s.offersLoop ∧ t.emitted = s.emitted ++ [shiftedPayload p] := by
    have hrun := (run_attempt (f := frameOf _ (wireFrame_length (shiftedPayload p))) hp hc hs hidle
      (head?_byteWords_unreserved 0xFF#8 [] line _)).1 (classify_wireFrame _ _)
    rw [payloadOf_wireFrame] at hrun
    exact ⟨_, hrun, rfl, rfl, (State.present_offers _ _).trans (State.filled_frame_wait_offers s _ _), rfl, rfl⟩
  have hagenda : t.agenda = [.ports false true false] := by
    rw [State.agenda, hot, hlt, ho, hloop]
    rfl
  have hline : ∀ w ∈ t.line.head?, evKind w ≠ .reserved := by
    rw [State.line, head?_orLoop, hst]
    exact head?_byteWords_unreserved 0xFF#8 [] line _
  have hstep : step t = .next t.wait.dropPayload.beginFill :=
    step_accept hpt (by rw [State.nextOffer, hagenda]; rfl) hline
  refine ⟨t.wait.dropPayload.beginFill, ?_, rfl, rfl, hst, ?_, hlt.trans hloop, hem⟩
  · rw [show 18 = 17 + 1 from rfl, run_add hrun, run_succ_next hstep]
    exact run_zero _
  · rw [State.beginFill_offers, State.dropPayload_offers, State.wait_offers, hagenda, List.tail_cons]

/-- Settles O54: one frame, and by induction on the frames every one of them. -/
theorem finalMarkerByteShiftsForEver : Obligations.FinalMarkerByteShiftsForEver := by
  refine ⟨fun s p line h hs => hs.run_shifted h, fun s ps line h hp hc hs ho hloop => ?_⟩
  induction ps generalizing s with
  | nil => exact ⟨s, run_zero s, hp, hc, hs, (List.append_nil _).symm⟩
  | cons p ps ih =>
    have hcut : byteWords (0xFF#8 :: backToBack (p :: ps)) ++ line =
        byteWords (0xFF#8 :: wireFrame p) ++ (byteWords (backToBack ps) ++ line) := by
      rw [backToBack_cons, ← List.cons_append, byteWords_append, List.append_assoc]
    obtain ⟨t, hrun, hpt, hct, hst, hot, hlt, hem⟩ :=
      run_shifted_accepted (h p (by simp)) hp hc (hs.trans hcut) ho hloop
    obtain ⟨u, hrun', hpu, hcu, hsu, hem'⟩ := ih t (fun p' hp' => h p' (by simp [hp'])) hpt hct hst hot hlt
    refine ⟨u, ?_, hpu, hcu, hsu, ?_⟩
    · rw [List.length_cons, Nat.mul_succ, Nat.add_comm, run_add hrun, hrun']
    · rw [hem', hem, List.append_assoc, List.map_cons]
      rfl

end Sys2Proof.Machine
end

section
/-! PROOFS. Runs without end (70_reset_and_hazards.md R208): what a step keeps of the line and of the neighbours'
entries, and the three runs of R208 by induction on the steps, each with the predicate it keeps. -/

namespace Sys2Proof.Machine

/-! ### What is on the line and in the entries after a step -/

/-- A step uses up one entry, and the two loops stay. -/
theorem step_next_environment {s t : State} (h : step s = .next t) :
    t.offers = s.agenda.tail ∧ t.offersLoop = s.offersLoop ∧ t.sourceLoop = s.sourceLoop := by
  cases step_effect h <;> exact ⟨rfl, rfl, rfl⟩

/-- `w` is a word of the line, now or later. -/
def State.OnLine (s : State) (w : EvWord) : Prop := w ∈ s.source ∨ w ∈ s.sourceLoop

theorem mem_of_mem_orLoop {α : Type} {now loop : List α} {a : α} (h : a ∈ orLoop now loop) : a ∈ now ∨ a ∈ loop := by
  cases now with
  | nil => exact .inr h
  | cons b t => exact .inl h

theorem State.onLine_of_mem_line {s : State} {w : EvWord} (h : w ∈ s.line) : s.OnLine w := mem_of_mem_orLoop h

/-- A step puts no word on the line. -/
theorem onLine_of_step {s t : State} {w : EvWord} (h : step s = .next t) (hw : t.OnLine w) : s.OnLine w := by
  obtain ⟨-, -, hloop⟩ := step_next_environment h
  obtain ⟨hsrc, -⟩ | ⟨v, hline, -, -⟩ := step_next_line h
  · rwa [State.OnLine, hsrc, hloop] at hw
  · refine mem_orLoop_tail (now := s.source) (hw.imp (fun hw => ?_) fun hw => hloop ▸ hw)
    change w ∈ s.line.tail
    rwa [hline]

/-- The entry of a step is listed, or nobody drives anything. -/
theorem State.nextOffer_cases (s : State) :
    s.nextOffer = Offer.idle ∨ s.nextOffer ∈ s.offers ∨ s.nextOffer ∈ s.offersLoop := by
  rw [State.nextOffer]
  cases h : s.agenda with
  | nil => exact .inl rfl
  | cons o l => exact .inr (mem_of_mem_orLoop (show o ∈ s.agenda by simp [h]))

/-- The word of a label is on the line. -/
theorem State.onLine_of_label {s : State} {w : EvWord} (h : s.label = some (.ev w)) : s.OnLine w :=
  State.onLine_of_mem_line (List.mem_of_head? (arbitrate_ev h))

/-! ### TIMEOUTs without end (R171) -/

/-- The block is ready, and meets nothing but TIMEOUTs, silences and ACKs from now on. -/
structure State.OnlyTimeouts (s : State) : Prop where
  inv    : s.Inv
  ready  : s.phase = .fill ∨ s.phase = .discard
  words  : ∀ w, s.OnLine w → evKind w = .timeout
  offers : ∀ o, o ∈ s.offers ∨ o ∈ s.offersLoop → o.isBlockStep = true ∧ o.resets = false

/-- Every entry of such a run is a step of the block without RESET. -/
theorem State.OnlyTimeouts.nextOffer {s : State} (hs : s.OnlyTimeouts) :
    s.nextOffer.isBlockStep = true ∧ s.nextOffer.resets = false := by
  obtain hidle | hlisted := s.nextOffer_cases
  · rw [hidle]
    exact ⟨rfl, rfl⟩
  · exact hs.offers _ hlisted

/-- R171: a TIMEOUT restarts or resumes what is under way; it never changes the phase or the cause. -/
theorem State.OnlyTimeouts.step_effect {s t : State} (hs : s.OnlyTimeouts) (h : StepEffect s t) :
    t.phase = s.phase ∧ t.cause = s.cause ∧ t.emitted = s.emitted := by
  obtain ⟨hblock, hres⟩ := hs.nextOffer
  have hkind : ∀ {k : EventKind} {d : Byte}, s.label = some (.ev (evWord k d)) → k = .timeout := fun hl => by
    simpa using hs.words _ (State.onLine_of_label hl)
  cases h with
  | wait | restartDiscard | resumeDiscard => exact ⟨rfl, rfl, rfl⟩
  | restartFill d hp => exact ⟨hp.symm, rfl, rfl⟩
  | storeByte b hp hc hl => cases hkind hl
  | endDiscard b hp hr hl => cases hkind hl
  | countDown b hp h0 h1 hl => cases hkind hl
  | raiseFatal d hp hl => cases hkind hl
  | present f hp | startDiscard f n hp | accept hp =>
    have hready := hs.ready
    simp [hp] at hready
  | reset hr => simp [hr] at hres
  | decode q ho => simp [ho, Offer.isBlockStep] at hblock

/-- Such a run goes on for one more step, in the same way. -/
theorem State.OnlyTimeouts.step {s : State} (hs : s.OnlyTimeouts) :
    ∃ t, step s = .next t ∧ t.OnlyTimeouts ∧ t.phase = s.phase ∧ t.cause = s.cause ∧ t.emitted = s.emitted := by
  obtain ⟨t, h⟩ := exists_step_next hs.inv hs.nextOffer.1 fun w hw hk => by
    simp [hs.words w (State.onLine_of_mem_line hw)] at hk
  obtain ⟨hp, hc, he⟩ := hs.step_effect (Machine.step_effect h)
  obtain ⟨hoffers, hloop, -⟩ := step_next_environment h
  refine ⟨t, h, ⟨(Machine.step_effect h).inv hs.inv, hp ▸ hs.ready, fun w hw => hs.words w (onLine_of_step h hw),
    fun o ho => hs.offers o ?_⟩, hp, hc, he⟩
  rw [hoffers, hloop] at ho
  exact mem_orLoop_tail ho

/-- With idle neighbours, a step of a ready block consumes the event at the head of the line. -/
theorem consumed_of_step_idle {s t : State} (hp : s.phase = .fill ∨ s.phase = .discard)
    (ho : s.nextOffer = Offer.idle) (hline : s.line ≠ []) (h : step s = .next t) : t.consumed = s.consumed + 1 := by
  obtain ⟨w, l, hcons⟩ := List.exists_cons_of_ne_nil hline
  have hl : s.label = some (.ev w) := by
    rw [State.label, ho, hcons]
    by_cases hk : evKind w = .reserved
    · exact arbitrate_of_reserved hk s.phase false l
    · exact (arbitrate_of_unreserved hk s.phase false l).trans (selectByPhase_event hp false w)
  obtain ⟨hnone, -⟩ | ⟨i, hi, -, hs⟩ := step_runs s
  · cases hl.symm.trans hnone
  · rw [Option.some.inj (hi.symm.trans hl)] at hs
    exact (exec_next_line (hs.symm.trans h)).2

/-- Settles O12: by induction on the steps; while the neighbours are idle each of them consumes an event. -/
theorem timeoutsNeverEscalate : Obligations.TimeoutsNeverEscalate := fun s hinv hready hwords hoffers n => by
  have hs : s.OnlyTimeouts := ⟨hinv, hready, hwords, hoffers⟩
  clear hinv hready hwords hoffers
  induction n generalizing s with
  | zero => exact ⟨s, run_zero s, rfl, rfl, rfl, fun _ _ _ => rfl⟩
  | succ n ih =>
    obtain ⟨t, h, ht, hp, hc, he⟩ := hs.step
    obtain ⟨u, hrun, hpu, hcu, heu, hcount⟩ := ih t ht
    refine ⟨u, (run_succ_next h).trans hrun, hpu.trans hp, hcu.trans hc, heu.trans he, fun hloop ho hol => ?_⟩
    obtain ⟨hot, holt, hlt⟩ := step_next_environment h
    have hagenda : s.agenda = [] := by rw [State.agenda, ho, hol]; rfl
    have hline : s.line ≠ [] := by
      rw [State.line]
      cases s.source with
      | nil => exact hloop
      | cons w l => simp
    have hone := consumed_of_step_idle hs.ready (by rw [State.nextOffer, hagenda]; rfl) hline h
    rw [hcount (hlt ▸ hloop) (by rw [hot, hagenda]; rfl) (holt.trans hol), hone]
    omega

/-! ### A stream without a marker byte (R208) -/

/-- A feed brings `s` nothing but what it says. -/
theorem onLine_of_receive {s : State} {f : Feed} {w : EvWord} (h : (s.receive f).OnLine w) :
    s.OnLine w ∨ w ∈ f.words := by
  obtain hsrc | hloop := h
  · exact (List.mem_append.1 hsrc).imp_left .inl
  · exact .inl (.inr hloop)

/-- Where a feed gives the entry, it is the entry of the step. -/
theorem State.nextOffer_receive (s : State) (f : Feed) : (s.receive f).nextOffer = f.offer := rfl

/-- The block fills, checks and discards what holds no marker byte: the first byte of an attempt is none, so no attempt
is aligned. -/
structure State.NeverAligned (s : State) : Prop where
  inv       : s.Inv
  phase     : s.phase = .fill ∨ s.phase = .check ∨ s.phase = .discard
  firstByte : s.phase = .fill ∧ s.cnt ≠ 0#5 ∨ s.phase = .check → s.buf[0] ≠ some markerByte
  words     : ∀ w, s.OnLine w → Markerless w

theorem State.NeverAligned.receive {s : State} {f : Feed} (hs : s.NeverAligned) (hf : ∀ w ∈ f.words, Markerless w) :
    (s.receive f).NeverAligned :=
  ⟨hs.inv.of_sameBlock (.receive f s), hs.phase, hs.firstByte,
    fun w hw => (onLine_of_receive hw).elim (hs.words w) (hf w)⟩

/-- The kinds of word a markerless stream brings. -/
theorem Markerless.kind {w : EvWord} (h : Markerless w) : evKind w = .timeout ∨ evKind w = .byte :=
  h.imp_right And.left

/-- R208: no effect of a markerless word, and no CHECK of a buffer that does not begin with a marker byte, emits. -/
theorem State.NeverAligned.step_effect {s t : State} (hs : s.NeverAligned) (hblock : s.nextOffer.isBlockStep = true)
    (h : StepEffect s t) :
    t.emitted = s.emitted ∧ (t.phase = .fill ∨ t.phase = .check ∨ t.phase = .discard) ∧
      (t.phase = .fill ∧ t.cnt ≠ 0#5 ∨ t.phase = .check → t.buf[0] ≠ some markerByte) := by
  cases h with
  | wait => exact ⟨rfl, hs.phase, hs.firstByte⟩
  | storeByte b hp hc hl =>
    refine ⟨rfl, by by_cases hlast : s.cnt = 15#5 <;> simp [hlast], fun _ => ?_⟩
    have hb : b ≠ markerByte := by simpa [Markerless] using hs.words _ (State.onLine_of_label hl)
    have hcell : (memWrite s.buf s.cnt.toNat b)[0] = if s.cnt.toNat = 0 then some b else s.buf[0] :=
      memWrite_getElem s.buf s.cnt.toNat b 0
    rw [State.storeByte_buf, State.consume_buf, State.consume_cnt, hcell]
    split
    · simpa using hb
    · next hne => exact hs.firstByte (.inl ⟨hp, fun h0 => hne (by simp [h0])⟩)
  | restartFill | endDiscard | reset => exact ⟨rfl, .inl rfl, by simp⟩
  | countDown b hp | restartDiscard d n hp | resumeDiscard d hp => exact ⟨rfl, .inr (.inr hp), by simp [hp]⟩
  | raiseFatal d hp hl =>
    obtain hk | hk := (hs.words _ (State.onLine_of_label hl)).kind <;> simp at hk
  | present f hp hf hc =>
    obtain ⟨h0, -⟩ := (isAligned_iff f).1 ((classify_eq_aligned_iff _ f).1 hc)
    exact absurd ((readFrame_ok_iff_cells.1 hf 0).trans (congrArg some h0)) (hs.firstByte (.inr hp))
  | startDiscard f n hp => exact ⟨rfl, .inr (.inr rfl), by simp⟩
  | accept hp =>
    have hphase := hs.phase
    simp [hp] at hphase
  | decode q ho => simp [ho, Offer.isBlockStep] at hblock

theorem State.NeverAligned.step {s : State} (hs : s.NeverAligned) (hblock : s.nextOffer.isBlockStep = true) :
    ∃ t, step s = .next t ∧ t.NeverAligned ∧ t.emitted = s.emitted := by
  obtain ⟨t, h⟩ := exists_step_next hs.inv hblock fun w hw hk => by
    obtain hk' | hk' := (hs.words w (State.onLine_of_mem_line hw)).kind <;> simp [hk] at hk'
  have heffect := Machine.step_effect h
  obtain ⟨he, hp, hfirst⟩ := hs.step_effect hblock heffect
  exact ⟨t, h, ⟨heffect.inv hs.inv, hp, hfirst, fun w hw => hs.words w (onLine_of_step h hw)⟩, he⟩

/-- Settles O55: an empty fill is such a state, and each step with its feed leads to another. -/
theorem markerlessStreamNeverEmits : Obligations.MarkerlessStreamNeverEmits :=
    fun env s hinv hp hc hline hblock hfeed n => by
  suffices h : ∃ t, runUnder env n s = .next t ∧ t.NeverAligned ∧ t.emitted = s.emitted by
    obtain ⟨t, hrun, ht, he⟩ := h
    exact ⟨t, hrun, he, ht.phase⟩
  induction n with
  | zero => exact ⟨s, rfl, ⟨hinv, .inl hp, by simp [hp, hc], hline⟩, rfl⟩
  | succ n ih =>
    obtain ⟨t, hrun, ht, he⟩ := ih
    obtain ⟨u, h, hu, heu⟩ := (ht.receive (hfeed n)).step (by rw [State.nextOffer_receive]; exact hblock n)
    exact ⟨u, (runUnder_succ_next hrun).trans h, hu, heu.trans he⟩

/-! ### A frame that is never accepted (R150, R208) -/

theorem SameBlock.refl (s : State) : SameBlock s s := ⟨rfl, rfl, rfl, rfl, rfl, rfl, rfl⟩

/-- The outputs are read off the block's elements. -/
theorem SameBlock.outputs_eq {s t : State} (h : SameBlock s t) : t.outputs = s.outputs := by
  rw [State.outputs, State.outputs, State.outputPayload, State.outputPayload, State.outValid, State.outValid, h.phase,
    h.outPayload]

/-- The step of EMIT under a feed without ACK, RESET and reserved words: only the line has changed. -/
theorem step_receive_emit {s : State} {f : Feed} {stall : Bool} (hp : s.phase = .emit)
    (ho : f.offer = .ports false false stall) (hline : ∀ w, (s.receive f).OnLine w → evKind w ≠ .reserved) :
    step (s.receive f) = .next (s.receive f).wait :=
  step_emit_unaccepted (rest := []) hp (by rw [State.receive_offers, ho])
    (.inr fun w hw => hline w (State.onLine_of_mem_line (List.mem_of_head? hw)))

/-- Settles O56: by induction on the steps, each of which changes only the line and the entries. -/
theorem unacceptedFrameWaitsForEver : Obligations.UnacceptedFrameWaitsForEver := fun env s hp hline ho hfeed n => by
  suffices h : ∃ t, runUnder env n s = .next t ∧ SameBlock s t ∧ t.emitted = s.emitted ∧ t.consumed = s.consumed ∧
      ∀ w, t.OnLine w → evKind w ≠ .reserved by
    obtain ⟨t, hrun, hsame, he, hc, -⟩ := h
    exact ⟨t, hrun, hsame, he, hc, hsame.outputs_eq⟩
  induction n with
  | zero => exact ⟨s, rfl, .refl s, rfl, rfl, hline⟩
  | succ n ih =>
    obtain ⟨t, hrun, hsame, he, hc, hwords⟩ := ih
    obtain ⟨stall, hstall⟩ := ho n
    have hreceived : ∀ w, (t.receive (env n)).OnLine w → evKind w ≠ .reserved := fun w hw =>
      (onLine_of_receive hw).elim (hwords w) (hfeed n w)
    have hstep := step_receive_emit (hsame.phase.symm.trans hp) hstall hreceived
    have hkept : SameBlock t (t.receive (env n)).wait := (SameBlock.receive (env n) t).trans (.wait _)
    exact ⟨_, (runUnder_succ_next hrun).trans hstep, hsame.trans hkept, he, hc, hreceived⟩

end Sys2Proof.Machine
end
